-- ==== Sys2Proof/Word.lean ====
section
/-! DEFINITION. The word types: the engine moves bytes (R6, R7); its operation-select code has three bits (R60). -/

namespace Sys2Proof

/-- One byte, the unit of every buffer access and every bus event (R6, R54). Bit 0 is the least significant
bit (R7). -/
abbrev Byte := BitVec 8

/-- The operation-select code, `OPR[2:0]` (R60). -/
abbrev OpCode := BitVec 3

end Sys2Proof
end

