-- ==== Sys2Proof/Config.lean ====
section
/-! DEFINITION. The configuration constants of one engine instance (R5, R28) and the free values: what the spec
leaves unspecified, as constants without a body. -/

namespace Sys2Proof

/-- The configuration constants of R5: supplied at construction, constant for the lifetime of the instance (R28).
Times are in milliseconds. -/
structure Params where
  /-- `ADDR`: the device bus address, passed unchanged to every `BusBegin` (R55); `ADDRW` = 7 bits. -/
  addr : BitVec 7
  /-- `MAXLEN`: the largest admitted `LEN` of a command frame; eight bits, so at most 255. -/
  maxlen : Byte
  /-- `ACKTMO`: the ACK-wait timeout. -/
  acktmo : Nat
  /-- `RSPTMO`: used only by the notation of R77, when the host gives no `tmo`. -/
  rsptmo : Nat
  /-- `CLKW`: the width in bits of the clock value and of `TMO`, `T0`, `TMOR`. -/
  clkw : Nat
  /-- `POSTAMBLE`: the last byte of an emitted command frame. -/
  postamble : Byte
  /-- `T_RSTLOW`: how long BEGIN holds the reset line low. -/
  tRstLow : Nat
  /-- `T_RSTSETTLE`: the delay after BEGIN releases the reset line. -/
  tRstSettle : Nat
  /-- `T_WAKEHOLD`: how long WAKE holds the empty transaction open. -/
  tWakeHold : Nat
deriving DecidableEq, Repr

/-- What R5 asks of the constants of any instance: `1 <= MAXLEN`, and every time fits the `CLKW` bits of `TMOR`. -/
abbrev Params.wf (p : Params) : Prop :=
  1 ≤ p.maxlen.toNat ∧ 1 ≤ p.clkw ∧ p.acktmo < 2 ^ p.clkw ∧ p.rsptmo < 2 ^ p.clkw ∧
    p.tRstLow < 2 ^ p.clkw ∧ p.tRstSettle < 2 ^ p.clkw ∧ p.tWakeHold < 2 ^ p.clkw

/-- `ADDR`, OPEN (R5, D8). -/
opaque Config.addr : BitVec 7

/-- `RSPTMO`, OPEN (R5, D27). -/
opaque Config.rspTmo : BitVec 32

/-- `T_RSTLOW`, OPEN (R5, D24). -/
opaque Config.tRstLow : BitVec 32

/-- `T_RSTSETTLE`, OPEN (R5, D24). -/
opaque Config.tRstSettle : BitVec 32

/-- `T_WAKEHOLD`, OPEN (R5, D24). -/
opaque Config.tWakeHold : BitVec 32

/-- The constants of the instance that `State.reset` describes: the values R5 takes, and the opaque constants where
R5 says OPEN (entries 15 and 16 of the log). -/
def Config.params : Params :=
  { addr := Config.addr
    maxlen := 32
    acktmo := 10
    rsptmo := Config.rspTmo.toNat
    clkw := 32
    postamble := 0x00
    tRstLow := Config.tRstLow.toNat
    tRstSettle := Config.tRstSettle.toNat
    tWakeHold := Config.tWakeHold.toNat }

/-- A free byte: slot `k` of the `n`-th time the machine leaves values unspecified (entry 3). Slots 0 to 4 are `SUM`,
`LENR`, `ECHO`, `ST`, `IDX`; 5 to 11 `ACKBUF[0..6]`; 12 `PENDCMD`; 13 to 16 a host read of `STATUS`, `RESULT`, `CAUSE`,
`PLEN` while busy (entry 5); 17 the model's own `rbyte` (entry 20). -/
opaque Config.freeByte : Nat → Nat → Byte

/-- A free clock value, before it is cut to `CLKW` bits: slot 0 is `T0`, slot 1 `TMOR` (entry 3). -/
opaque Config.freeTime : Nat → Nat → Nat

/-- Whether the `n`-th rejected byte was traced (R104: not specified; entry 18). -/
opaque Config.rejectedByteTraced : Nat → Bool

end Sys2Proof
end

