-- ==== Sys2Proof/Syntax.lean ====
section
/-! DEFINITION. The instructions: one constructor per row of the opcode table (R60 to R66, R72), and the aliases
of R76. -/

namespace Sys2Proof

/-- The rows of the opcode table (R72). The eight `OPSEL` rows have no fields: their operands are the operand latches
of R23 and the host's buffers. The four wire formats carry the bytes that their match and mask leave free. -/
inductive Instr where
  /-- `OPR = 0` (R90). -/
  | begin
  /-- `OPR = 1` (R91). -/
  | wake
  /-- `OPR = 2` (R100). -/
  | writeCommand
  /-- `OPR = 3` (R120). -/
  | readResponse
  /-- `OPR = 4` (R141). -/
  | waitReady
  /-- `OPR = 5`, reserved (R73). -/
  | reserved5
  /-- `OPR = 6`, reserved (R73). -/
  | reserved6
  /-- `OPR = 7`, reserved (R73). -/
  | reserved7
  /-- The command frame `00 00 FF LEN LCS D4 rest` (R62); `rest` is DATA, DCS, POSTAMBLE: `LEN + 1` bytes. -/
  | cmdFrame (len lcs : Byte) (rest : List Byte)
  /-- The response frame `00 00 FF LEN LCS D5 rest` (R63); `rest` is ECHO, payload, DCS, POSTAMBLE: `LEN + 1` bytes. -/
  | rspFrame (len lcs : Byte) (rest : List Byte)
  /-- The ACK frame `00 00 FF 00 FF 00` (R64). -/
  | ackFrame
  /-- A status byte with bit 0 set (R65); `ignored` is its bits 7 to 1. -/
  | statusByte (ignored : BitVec 7)
deriving DecidableEq, Repr

/-- R76: `sendCommand` is another name of WRITE_COMMAND. -/
abbrev Instr.sendCommand : Instr := .writeCommand

/-- R76: `receiveResponse` is another name of READ_RESPONSE. -/
abbrev Instr.receiveResponse : Instr := .readResponse

/-- R76: the overview's `reset` is the chip-reset pulse that BEGIN performs. -/
abbrev Instr.resetPulse : Instr := .begin

/-- The two channels an encoding travels on: the host's write to `OPR` (R60) and the bytes of the bus (R61 to R66). -/
inductive Encoding where
  | opsel (code : OpCode)
  | wire (bytes : List Byte)
deriving DecidableEq, Repr

end Sys2Proof
end

