-- ==== Sys2Proof/Machine/State.lean ====
section
/-! DEFINITION. The state of one engine instance with its host-owned buffers and the answers of its collaborators, as
plain data (R10, R29, R33, R40 to R43), and the machine right after reset. -/

namespace Sys2Proof.Machine

/-- The sequencer phases of R20, in the order of their codes; `xClose` is the `BusEnd()` of `AbortTxn` (R161). -/
inductive Phase where
  | idle
  | wCheck | wOpen | wHead | wHdr | wBody | wDcs | wPost | wCommit
  | aWait | aOpen | aRead | aClose | aEval
  | rCheck | rWait | rOpen | rStatus | rPre | rSc1 | rSc2 | rLen | rLcs | rTfi | rEcho | rSize | rData | rDcs | rPost
  | rClose
  | gWait
  | bInit | bLow | bSettle
  | kOpen | kHold | kClose
  | xClose
deriving DecidableEq, Repr

/-- The model's own position inside a phase of more than one visit (entry 20). In a wait or delay: on first entering
B_SETTLE, before the latch of `T0`, before a sample of the readiness signal, before a sample of the clock (R92, R140). In
B_INIT and R_DATA, `ready` is the place between the phase's two statements. -/
inductive SubStep where
  | entry | latch | ready | clock
deriving DecidableEq, Repr

/-- The closed set of result codes (R150). -/
inductive ResultCode where
  | ok | timeout | invalidFrame | invalidAck | noSpace
deriving DecidableEq, Repr

/-- The cause codes, in the order of their numbers (R151). -/
inductive Cause where
  | none
  | hdrEmpty | tooLong | writeRejected
  | ackWaitTimeout | ackStatusNotReady | ackPatternMismatch
  | noPending | rspWaitTimeout | rspStatusNotReady | badPreamble | badStartCode1 | badStartCode2 | badLcs | badTfi
  | badEcho | lenTooShort | noSpace | badDcs
  | illegalOp
deriving DecidableEq, Repr

/-- The bus transaction (R47): none open; opened and nothing moved yet; carrying writes; carrying reads. -/
inductive Transaction where
  | closed | opened | writing | reading
deriving DecidableEq, Repr

/-- The external events of R8, with the answers of the collaborators. -/
inductive Event where
  | busInit
  | busBegin (addr : BitVec 7)
  | busEnd
  | busWrite (b : Byte) (accepted : Bool)
  | busRead (b : Byte)
  | ready (v : Bool)
  | now (t : Nat)
  | rstLine (v : Bool)
deriving DecidableEq, Repr

/-- The `Log` events (R104, R120 step 16, R169). -/
inductive LogEvent where
  | emitted (b : Byte)
  | checksumFailure
deriving DecidableEq, Repr

/-- The nine host-visible registers (R30), in the order of their numbers. -/
inductive HostReg where
  | opr | hlen | blen | maxl | tmo | status | result | cause | plen
deriving DecidableEq, Repr

/-- The host-owned byte buffers (R40 to R42). -/
inductive Buffer where
  | hdr | body | rbuf
deriving DecidableEq, Repr

/-- What the outside does to the engine (R168, R180): the host's register and buffer accesses, the hardware reset, and
the answers that the collaborators have ready. -/
inductive Input where
  /-- The host writes `x[r] <- v` (R30). -/
  | writeReg (r : HostReg) (v : Nat)
  /-- The host reads `x[r]` (R30). -/
  | readReg (r : HostReg)
  /-- The host places bytes at index 0 and up of one of its buffers (R40 to R42). -/
  | put (b : Buffer) (bytes : List Byte)
  /-- The host reads a byte of `RBUF` (R42). -/
  | peek (index : Nat)
  /-- The hardware reset of the engine (R180), where the engine stands. -/
  | hwReset
  /-- The hardware reset of the engine (R180), `visits` visits into the run that the input behind it in the queue sets
  off (entry 22). -/
  | hwResetWithin (visits : Nat)
  /-- A sample of the clock (R51). -/
  | now (t : Nat)
  /-- A sample of the readiness signal (R50). -/
  | ready (v : Bool)
  /-- The bus driver's answer to a `BusWrite` (R48). -/
  | accept (v : Bool)
  /-- Bytes the chip puts on the bus (R49). -/
  | wire (bytes : List Byte)
deriving DecidableEq, Repr

/-- A byte-indexed space: index and byte, indexes strictly rising, no entry equal to what an unlisted index reads as
(entry 6). -/
abbrev Memory := List Host.Cell

/-- The state (R10, R29, R40 to R43). Clock values are numbers below `2 ^ CLKW` (entry 15). -/
structure State where
  /-- The configuration constants of the instance (R28); no step changes them. -/
  cfg : Params
  /-- `PENDCMD` (R11). -/
  pendcmd : Byte
  /-- `PENDV` (R12). -/
  pendv : Bool
  /-- `SUM` (R13). -/
  sum : Byte
  /-- `LENR` (R13). -/
  lenr : Byte
  /-- `ECHO` (R13). -/
  echo : Byte
  /-- `ST` (R13). -/
  st : Byte
  /-- `IDX` (R13). -/
  idx : Byte
  /-- `ACKBUF[0..6]` (R13). -/
  ackbuf : Vector Byte 7
  /-- `T0` (R13). -/
  t0 : Nat
  /-- `TMOR` (R13). -/
  tmor : Nat
  /-- `PH` (R20). -/
  ph : Phase
  /-- Model's own: the position inside a phase of more than one visit (entry 20). -/
  sub : SubStep
  /-- Model's own: the variable `b` of R120 step 15, between its `BusRead` and its `MemWrite` (entry 20). -/
  rbyte : Byte
  /-- Model's own: the cause that `AbortTxn` carries through X_CLOSE (entry 20). -/
  xcause : Cause
  /-- `BUSY` (R21). -/
  busy : Bool
  /-- `OPR` (R23). -/
  opr : OpCode
  /-- `HLEN` (R23). -/
  hlen : Byte
  /-- `BLEN` (R23). -/
  blen : Byte
  /-- `MAXL` (R23). -/
  maxl : Byte
  /-- `TMO` (R23). -/
  tmo : Nat
  /-- `RESULT` (R24, R150). -/
  result : ResultCode
  /-- `CAUSE` (R25, R151). -/
  cause : Cause
  /-- `PLEN` (R26). -/
  plen : Byte
  /-- `RDYRES` (R22). -/
  rdyres : Bool
  /-- `RSTN` (R27). -/
  rstn : Bool
  /-- `HDR` (R40). -/
  hdr : Memory
  /-- `BODY` (R41). -/
  body : Memory
  /-- `RBUF` (R42). -/
  rbuf : Memory
  /-- The bus transaction (R47). -/
  txn : Transaction
  /-- The bytes staged in the open write transaction (R29 a, R47). -/
  staged : List Byte
  /-- The frames committed to the bus so far, oldest first (R47). -/
  committed : List (List Byte)
  /-- The answers the bus driver has ready for `BusWrite` (R48). -/
  accepts : List Bool
  /-- The bytes the chip has to send, the answers to `BusRead` (R29 b, R49). -/
  reads : List Byte
  /-- The samples of the readiness signal (R50). -/
  readies : List Bool
  /-- The samples of the clock (R29 c, R51). -/
  nows : List Nat
  /-- What the outside does next (entry 13). -/
  inputs : List Input
  /-- What the host's last read returned (R30). -/
  rdata : Nat
  /-- The external events so far, oldest first (R8, R20). -/
  trace : List Event
  /-- The `Log` events so far, oldest first (R104, R169; entry 18). -/
  log : List LogEvent
  /-- Model's own: the counter that picks the next free value (entry 3). -/
  fresh : Nat
deriving DecidableEq, Repr

/-- Why the machine stops. -/
inductive Fault where
  /-- Raised by a host access (`put`, `peek`) to a buffer index beyond 255, which no index register of the engine can
  name (R13, entry 9). Safe: the model stops. -/
  | bufferIndex
deriving DecidableEq, Repr

/-- Why the model gives no meaning. -/
inductive Refusal where
  /-- Raised only by a rejected arm of `exec`: the instruction has no meaning yet. Safe. -/
  | notModelled (mnemonic : String)
  /-- Raised by a host access (`put`, `peek`) to a buffer while `BUSY = 1`: what the engine emits or the host reads is
  then unspecified, treatment "refuse" (R59, R185, S4; entry 7). Safe. -/
  | bufferTouchedWhileBusy
deriving DecidableEq, Repr

/-- The state after a hardware reset (R33, R181). The registers R33 leaves unspecified are zero here (entry 4); the
collaborators' and the model's own fields start empty (entries 13, 19, 20). -/
def State.reset : State :=
  { cfg := Config.params
    pendcmd := 0
    pendv := false
    sum := 0
    lenr := 0
    echo := 0
    st := 0
    idx := 0
    ackbuf := Vector.replicate 7 0
    t0 := 0
    tmor := 0
    ph := .idle
    sub := .latch
    rbyte := 0
    xcause := .none
    busy := false
    opr := 0
    hlen := 0
    blen := 0
    maxl := 0
    tmo := 0
    result := .ok
    cause := .none
    plen := 0
    rdyres := false
    rstn := true
    hdr := []
    body := []
    rbuf := []
    txn := .closed
    staged := []
    committed := []
    accepts := []
    reads := []
    readies := []
    nows := []
    inputs := []
    rdata := 0
    trace := []
    log := []
    fresh := 0 }

end Sys2Proof.Machine
end

