-- ==== Sys2Proof/Machine/Ops.lean ====
section
/-! DEFINITION. The shared operations: the byte buffers, the bus, clock and readiness events with their answers, the
start and the end of an operation, and the two aborts. -/

namespace Sys2Proof.Machine

/-! ## Byte buffers (R40 to R42) -/

/-- What an index that nothing has written reads as (entry 6). -/
def Memory.unlisted : Byte := 0x00

/-- The canonical form: indexes strictly rising, below 256, and no entry that reads like an unlisted index. -/
abbrev Memory.wf (m : Memory) : Prop :=
  m.Pairwise (fun x y => x.1 < y.1) ∧ ∀ c ∈ m, c.1 < 256 ∧ c.2 ≠ Memory.unlisted

/-- Read of one byte. -/
def Memory.read : Memory → Nat → Byte
  | [], _ => Memory.unlisted
  | (a, b) :: m, i => if a = i then b else Memory.read m i

/-- The entries of all indexes but `i`. -/
def Memory.erase (m : Memory) (i : Nat) : Memory := m.filter fun c => c.1 ≠ i

/-- An entry put before the first higher index. -/
def Memory.insert : Memory → Nat → Byte → Memory
  | [], i, v => [(i, v)]
  | (a, b) :: m, i, v => if i < a then (i, v) :: (a, b) :: m else (a, b) :: Memory.insert m i v

/-- Write of one byte, keeping the canonical form: an index that comes to read like an unlisted one is not listed. -/
def Memory.write (m : Memory) (i : Nat) (v : Byte) : Memory :=
  if v = Memory.unlisted then Memory.erase m i else Memory.insert (Memory.erase m i) i v

/-- Writes of consecutive bytes from index `i` up. -/
def Memory.writeBytes : Memory → Nat → List Byte → Memory
  | m, _, [] => m
  | m, i, b :: bs => Memory.writeBytes (Memory.write m i b) (i + 1) bs

/-- The `n` bytes from index `i` up. -/
def Memory.readBytes (m : Memory) (i : Nat) : Nat → List Byte
  | 0 => []
  | n + 1 => Memory.read m i :: Memory.readBytes m (i + 1) n

/-! ## The clock (R51, R85) -/

/-- A sample of the clock is a number of `CLKW` bits (R51). -/
def clockValue (p : Params) (t : Nat) : Nat := t % 2 ^ p.clkw

/-- Elapsed time, `(Now() - T0) mod 2^CLKW` (R85, R140): exact across one wrap of the clock. -/
def elapsed (p : Params) (now t0 : Nat) : Nat := (now + (2 ^ p.clkw - t0 % 2 ^ p.clkw)) % 2 ^ p.clkw

/-! ## Bus and port events that need no answer (R8) -/

/-- One external event. -/
def record (e : Event) (s : State) : State := { s with trace := s.trace ++ [e] }

/-- `BusInit()`: one-time initialisation of the bus driver, issued only by BEGIN (R8). -/
def busInit (s : State) : State := record .busInit s

/-- `BusBegin(ADDR)`: a transaction is opened; the staged bytes of an uncommitted one are discarded (R47). -/
def busBegin (s : State) : State :=
  { s with txn := .opened, staged := [], trace := s.trace ++ [.busBegin s.cfg.addr] }

/-- `BusEnd()`: a write transaction is committed, as one frame; a read transaction ends and what the chip had left to
send in it is dropped (R47). -/
def busEnd (s : State) : State :=
  { s with
    txn := .closed
    committed := if s.txn = .writing then s.committed ++ [s.staged] else s.committed
    staged := if s.txn = .writing then [] else s.staged
    reads := if s.txn = .reading then [] else s.reads
    trace := s.trace ++ [.busEnd] }

/-- `RstLine(v)`: the latch behind the chip-reset port (R27, R52). -/
def rstLine (v : Bool) (s : State) : State := { s with rstn := v, trace := s.trace ++ [.rstLine v] }

/-! ## Events with an answer: `none` while the collaborator has none ready (entry 1) -/

/-- `Now()` (R51). -/
def askNow (k : Nat → State → State) (s : State) : Option State :=
  match s.nows with
  | [] => none
  | t :: ts =>
    some (k (clockValue s.cfg t) { s with nows := ts, trace := s.trace ++ [.now (clockValue s.cfg t)] })

/-- `Ready()` (R50). -/
def askReady (k : Bool → State → State) (s : State) : Option State :=
  match s.readies with
  | [] => none
  | r :: rs => some (k r { s with readies := rs, trace := s.trace ++ [.ready r] })

/-- `BusWrite(b)`: an accepted byte is staged (R47, R48). -/
def askWrite (b : Byte) (k : Bool → State → State) (s : State) : Option State :=
  match s.accepts with
  | [] => none
  | a :: as =>
    some (k a
      { s with
        accepts := as
        txn := .writing
        staged := if a then s.staged ++ [b] else s.staged
        trace := s.trace ++ [.busWrite b a] })

/-- `BusRead()`: the byte is consumed (R49, R54). -/
def askRead (k : Byte → State → State) (s : State) : Option State :=
  match s.reads with
  | [] => none
  | b :: bs => some (k b { s with reads := bs, txn := .reading, trace := s.trace ++ [.busRead b] })

/-- `Log(hex of b)` for an emitted byte. Whether a rejected byte is traced is not specified (R104; entry 18). -/
def logEmitted (b : Byte) (accepted : Bool) (s : State) : State :=
  if accepted then { s with log := s.log ++ [.emitted b] }
  else
    { s with
      log := if Config.rejectedByteTraced s.fresh then s.log ++ [.emitted b] else s.log
      fresh := s.fresh + 1 }

/-! ## Start and end of an operation (R35, R160, R161) -/

/-- The working registers after an operation has ended hold unspecified values (R13, R162, S2; entry 3). -/
def scrub (s : State) : State :=
  let n := s.fresh
  { s with
    sum := Config.freeByte 0 n
    lenr := Config.freeByte 1 n
    echo := Config.freeByte 2 n
    st := Config.freeByte 3 n
    idx := Config.freeByte 4 n
    ackbuf := #v[Config.freeByte 5 n, Config.freeByte 6 n, Config.freeByte 7 n, Config.freeByte 8 n,
      Config.freeByte 9 n, Config.freeByte 10 n, Config.freeByte 11 n]
    rbyte := Config.freeByte 17 n
    t0 := clockValue s.cfg (Config.freeTime 0 n)
    tmor := clockValue s.cfg (Config.freeTime 1 n)
    fresh := n + 1 }

/-- R35: an accepted write of `c` to `OPR` starts operation `c` at its first phase, as one step. -/
def startOperation (c : OpCode) (first : Phase) (s : State) : State :=
  { s with opr := c, busy := true, plen := 0, ph := first, sub := .latch, xcause := .none }

/-- The result code that goes with a cause code (R151). -/
def Cause.result : Cause → ResultCode
  | .none => .ok
  | .ackWaitTimeout | .rspWaitTimeout => .timeout
  | .ackStatusNotReady | .ackPatternMismatch => .invalidAck
  | .noSpace => .noSpace
  | .hdrEmpty | .tooLong | .writeRejected | .noPending | .rspStatusNotReady | .badPreamble | .badStartCode1
  | .badStartCode2 | .badLcs | .badTfi | .badEcho | .lenTooShort | .badDcs | .illegalOp => .invalidFrame

/-- The last step of every operation: `RESULT <- r; CAUSE <- k; BUSY <- 0; PH <- IDLE` (R35, R160). -/
def endOperation (k : Cause) (s : State) : State :=
  { s with result := k.result, cause := k, busy := false, ph := .idle, sub := .latch, xcause := .none }

/-- Completion: `RESULT <- Ok; CAUSE <- NONE` (R35). -/
def complete (s : State) : State := endOperation .none (scrub s)

/-- `raise Abort(r, k)`: no bus event is issued (R160). -/
def abort (k : Cause) (s : State) : State := endOperation k (scrub s)

/-- `raise AbortTxn(r, k)`: the engine goes through phase X_CLOSE, whose `BusEnd()` closes the read transaction
(R161). -/
def abortTxn (k : Cause) (s : State) : State := { s with ph := .xClose, xcause := k }

/-- Phase X_CLOSE: the `BusEnd()` of `AbortTxn`, then the end of the operation (R20, R161). -/
def xClose (s : State) : State := abort s.xcause (busEnd s)

/-- R73: a reserved code completes at once; no other register changes, and the host never sees `BUSY` set. -/
def rejectCode (c : OpCode) (s : State) : State :=
  { s with opr := c, plen := 0, result := Cause.illegalOp.result, cause := .illegalOp }

end Sys2Proof.Machine
end

