-- ==== Sys2Proof/Machine/Flags.lean ====
section
/-! DEFINITION. The checksum calculator and every check the engine makes (R80 to R85). -/

namespace Sys2Proof.Machine

/-- `LcsGen(len) = (0 - len) mod 256` (R80). -/
def lcsGen (len : Byte) : Byte := 0 - len

/-- `LcsOk(len, lcs) = ((len + lcs) mod 256 = 0)` (R81). -/
def lcsOk (len lcs : Byte) : Bool := len + lcs == 0

/-- `SumAdd(sum, b) = (sum + b) mod 256`: the carry is dropped (R82). -/
def sumAdd (sum b : Byte) : Byte := sum + b

/-- `DcsGen(sum) = (0 - sum) mod 256` (R83). -/
def dcsGen (sum : Byte) : Byte := 0 - sum

/-- `DcsOk(sum, dcs) = ((sum + dcs) mod 256 = 0)` (R84). -/
def dcsOk (sum dcs : Byte) : Bool := sum + dcs == 0

/-- `HLEN + BLEN + 1`, formed without wrap-around: at most 511 (R67, R85). -/
def frameLen (hlen blen : Byte) : Nat := hlen.toNat + blen.toNat + 1

/-- `HLEN + BLEN + 1 > MAXLEN` (R103). -/
def tooLong (p : Params) (hlen blen : Byte) : Bool := p.maxlen.toNat < frameLen hlen blen

/-- Bit 0 of a status byte; bits 7 to 1 are ignored (R65). -/
def statusReady (st : Byte) : Bool := st.getLsbD 0

/-- `zext_9` (R8). -/
def zext9 (b : Byte) : BitVec 9 := b.setWidth 9

/-- `zext_9(ECHO) = zext_9(PENDCMD) + 1`: with `PENDCMD = 0xFF` no byte matches (R71, R122). -/
def echoOk (pendcmd echo : Byte) : Bool := zext9 echo == zext9 pendcmd + 1

/-- `LEN < 2` (R120 step 12). -/
def lenTooShort (len : Byte) : Bool := len.toNat < 2

/-- `PLEN > MAXL`, unsigned (R85, R123). -/
def noSpace (plen maxl : Byte) : Bool := maxl.toNat < plen.toNat

/-- `(Now() - T0) mod 2^CLKW >= TMOR` (R140). -/
def timedOut (s : State) (now : Nat) : Bool := s.tmor ≤ elapsed s.cfg now s.t0

end Sys2Proof.Machine
end

