-- ==== Sys2Proof/Machine/Operands.lean ====
section
/-! DEFINITION. The operand forms: the buffers of an operation, the bytes of the frame under construction, and the
host's register table. -/

namespace Sys2Proof.Machine

/-- `MemRead(HDR+i, 1)` (R40). -/
def readHdr (s : State) (i : Nat) : Byte := Memory.read s.hdr i

/-- `MemRead(BODY+i, 1)` (R41). -/
def readBody (s : State) (i : Nat) : Byte := Memory.read s.body i

/-- `ACKROM[0..5] = 00 00 FF 00 FF 00` (R43). -/
def ackRom : List Byte := [0x00, 0x00, 0xFF, 0x00, 0xFF, 0x00]

/-- `MemWrite(RBUF+i, 1, v)` (R42). -/
def writeRbuf (i : Nat) (v : Byte) (s : State) : State := { s with rbuf := Memory.write s.rbuf i v }

/-- The bytes that phase W_HEAD emits at `IDX` 0..5: PREAMBLE, STARTCODE1, STARTCODE2, LEN, LCS, TFI (R100 steps 6 to
11). -/
def headByte (s : State) : Byte :=
  match s.idx.toNat with
  | 0 => 0x00
  | 1 => 0x00
  | 2 => 0xFF
  | 3 => s.lenr
  | 4 => lcsGen s.lenr
  | _ => 0xD4

/-- The DATA region of the command frame: the header bytes, then the body bytes (R62). -/
def commandData (s : State) : List Byte :=
  Memory.readBytes s.hdr 0 s.hlen.toNat ++ Memory.readBytes s.body 0 s.blen.toNat

/-- The running sum over a byte string, in order (R82). -/
def sumBytes (seed : Byte) (bs : List Byte) : Byte := bs.foldl sumAdd seed

/-- The general frame with the given `TFI` and DATA (R61). -/
def generalFrame (tfi : Byte) (data : List Byte) (postamble : Byte) : List Byte :=
  let len := BitVec.ofNat 8 (data.length + 1)
  [0x00, 0x00, 0xFF, len, lcsGen len, tfi] ++ data ++ [dcsGen (sumBytes tfi data), postamble]

/-- The command frame for the operands in the latches and buffers (R62). -/
def commandFrame (s : State) : List Byte := generalFrame 0xD4 (commandData s) s.cfg.postamble

/-! ## The host's register table (R30) -/

/-- The register numbers of R30. -/
def HostReg.number : HostReg → Nat
  | .opr => 0 | .hlen => 1 | .blen => 2 | .maxl => 3 | .tmo => 4 | .status => 5 | .result => 6 | .cause => 7 | .plen => 8

/-- The phase codes of R20. -/
def Phase.code : Phase → BitVec 6
  | .idle => 0
  | .wCheck => 1 | .wOpen => 2 | .wHead => 3 | .wHdr => 4 | .wBody => 5 | .wDcs => 6 | .wPost => 7 | .wCommit => 8
  | .aWait => 9 | .aOpen => 10 | .aRead => 11 | .aClose => 12 | .aEval => 13
  | .rCheck => 14 | .rWait => 15 | .rOpen => 16 | .rStatus => 17 | .rPre => 18 | .rSc1 => 19 | .rSc2 => 20 | .rLen => 21
  | .rLcs => 22 | .rTfi => 23 | .rEcho => 24 | .rSize => 25 | .rData => 26 | .rDcs => 27 | .rPost => 28 | .rClose => 29
  | .gWait => 30
  | .bInit => 31 | .bLow => 32 | .bSettle => 33
  | .kOpen => 34 | .kHold => 35 | .kClose => 36
  | .xClose => 37

/-- The numbers of the result codes (R150). -/
def ResultCode.code : ResultCode → BitVec 3
  | .ok => 0 | .timeout => 1 | .invalidFrame => 2 | .invalidAck => 3 | .noSpace => 4

/-- The numbers of the cause codes (R151). -/
def Cause.code : Cause → BitVec 5
  | .none => 0
  | .hdrEmpty => 1 | .tooLong => 2 | .writeRejected => 3
  | .ackWaitTimeout => 4 | .ackStatusNotReady => 5 | .ackPatternMismatch => 6
  | .noPending => 7 | .rspWaitTimeout => 8 | .rspStatusNotReady => 9 | .badPreamble => 10 | .badStartCode1 => 11
  | .badStartCode2 => 12 | .badLcs => 13 | .badTfi => 14 | .badEcho => 15 | .lenTooShort => 16 | .noSpace => 17
  | .badDcs => 18
  | .illegalOp => 19

/-- `STATUS`: `BUSY`, `PENDV`, `RDYRES` in bits 0 to 2, bits 7 to 3 read as 0. While `BUSY = 1` only bit 0 is
meaningful (R30; entry 5). -/
def statusValue (s : State) : Byte :=
  if s.busy then (Config.freeByte 13 s.fresh &&& 0x06) ||| 0x01
  else (if s.pendv then 0x02 else 0x00) ||| (if s.rdyres then 0x04 else 0x00)

/-- The value a host read of `x[r]` returns (R30). A read of `RESULT`, `CAUSE` or `PLEN` while `BUSY = 1` returns an
unspecified value of the register's width (S3; entry 5). -/
def readReg (r : HostReg) (s : State) : Nat :=
  match r with
  | .opr => s.opr.toNat
  | .hlen => s.hlen.toNat
  | .blen => s.blen.toNat
  | .maxl => s.maxl.toNat
  | .tmo => s.tmo
  | .status => (statusValue s).toNat
  | .result => if s.busy then (Config.freeByte 14 s.fresh).toNat % 8 else s.result.code.toNat
  | .cause => if s.busy then (Config.freeByte 15 s.fresh).toNat % 32 else s.cause.code.toNat
  | .plen => if s.busy then (Config.freeByte 16 s.fresh).toNat else s.plen.toNat

/-- A host write to an operand latch (R23, R30): bits above the register's width are ignored; a write to a read-only
register, and any write while `BUSY = 1` (R184), changes nothing. A write to `OPR` is an instruction, not this. -/
def writeLatch (r : HostReg) (v : Nat) (s : State) : State :=
  if s.busy then s
  else
    match r with
    | .hlen => { s with hlen := BitVec.ofNat 8 v }
    | .blen => { s with blen := BitVec.ofNat 8 v }
    | .maxl => { s with maxl := BitVec.ofNat 8 v }
    | .tmo => { s with tmo := v % 2 ^ s.cfg.clkw }
    | .opr | .status | .result | .cause | .plen => s

/-- The host places bytes in one of its buffers, from index 0 up. -/
def putBuffer (b : Buffer) (bs : List Byte) (s : State) : State :=
  match b with
  | .hdr => { s with hdr := Memory.writeBytes s.hdr 0 bs }
  | .body => { s with body := Memory.writeBytes s.body 0 bs }
  | .rbuf => { s with rbuf := Memory.writeBytes s.rbuf 0 bs }

end Sys2Proof.Machine
end

