-- ==== Sys2Proof/Machine/WaitReady.lean ====
section
/-! DEFINITION. The two waits, one event per visit: `WaitReady(t)` (R140) and `Delay(d)` (R92); phase G_WAIT of
WAIT_READY (R141). -/

namespace Sys2Proof.Machine

/-- One visit of a readiness wait (R140): `T0` is latched once, at entry; then the signal is sampled before the clock;
the wait times out when the elapsed time is at least `t`. -/
def waitVisit (t : Nat) (onReady onTimeout : State → State) (s : State) : Option State :=
  match s.sub with
  | .entry | .latch => askNow (fun v s => { s with t0 := v, tmor := t, sub := .ready }) s
  | .ready => askReady (fun r s => if r then onReady s else { s with sub := .clock }) s
  | .clock => askNow (fun v s => if timedOut s v then onTimeout s else { s with sub := .ready }) s

/-- One visit of a delay (R92): at least two clock samples, no readiness sample. -/
def delayVisit (d : Nat) (onDone : State → State) (s : State) : Option State :=
  match s.sub with
  | .entry | .latch => askNow (fun v s => { s with t0 := v, tmor := d, sub := .clock }) s
  | .ready | .clock => askNow (fun v s => if timedOut s v then onDone s else { s with sub := .clock }) s

/-- Phase G_WAIT: `RDYRES <- WaitReady(TMO)`; completes with `Ok` in both cases (R141). -/
def gWait (s : State) : Option State :=
  waitVisit s.tmo (fun s => complete { s with rdyres := true }) (fun s => complete { s with rdyres := false }) s

end Sys2Proof.Machine
end

