-- ==== Sys2Proof/Machine/AckCheck.lean ====
section
/-! DEFINITION. The phases of ACK_CHECK, the ACK-sequence detector (R110 to R112). -/

namespace Sys2Proof.Machine

/-- Phase A_WAIT: `WaitReady(ACKTMO)` (R110 step 1). -/
def aWait (s : State) : Option State :=
  waitVisit s.cfg.acktmo (fun s => { s with ph := .aOpen, sub := .latch }) (abort .ackWaitTimeout) s

/-- Phase A_OPEN: `BusBegin(ADDR)` (R110 step 2). -/
def aOpen (s : State) : State := { busBegin s with idx := 0, ph := .aRead }

/-- Phase A_READ: all seven bytes are read, whatever they are (R110 step 3). -/
def aRead (s : State) : Option State :=
  askRead
    (fun b s =>
      let s := { s with ackbuf := s.ackbuf.setIfInBounds s.idx.toNat b }
      if s.idx.toNat < 6 then { s with idx := s.idx + 1 } else { s with ph := .aClose }) s

/-- Phase A_CLOSE: `BusEnd()` (R110 step 4). -/
def aClose (s : State) : State := { busEnd s with ph := .aEval }

/-- The verdict on the seven bytes of an ACK read: the status bit first, then full equality of the other six with
ACKROM (R110 steps 5 to 7, R111). -/
def ackVerdict (buf : Vector Byte 7) : Cause :=
  if !statusReady buf[0] then .ackStatusNotReady
  else if [buf[1], buf[2], buf[3], buf[4], buf[5], buf[6]] ≠ ackRom then .ackPatternMismatch
  else .none

/-- Phase A_EVAL: abort or completion by the verdict (R110 steps 5 to 7). -/
def aEval (s : State) : State :=
  match ackVerdict s.ackbuf with
  | .none => complete s
  | k => abort k s

end Sys2Proof.Machine
end

