-- ==== Sys2Proof/Machine/BeginWake.lean ====
section
/-! DEFINITION. The phases of BEGIN (R90) and WAKE (R91). -/

namespace Sys2Proof.Machine

/-- Phase B_INIT, one statement a visit: `PENDV <- 0; RDYRES <- 0`, `PENDCMD` and the working registers become
unspecified (entry 3), and `BusInit()`; then `RstLine(0)` (R90 steps 1 to 3). -/
def bInit (s : State) : State :=
  match s.sub with
  | .entry | .latch =>
    let s := { s with pendv := false, rdyres := false, pendcmd := Config.freeByte 12 s.fresh }
    { busInit (scrub s) with sub := .ready }
  | .ready | .clock => { rstLine false s with ph := .bLow, sub := .latch }

/-- Phase B_LOW: `Delay(T_RSTLOW)` (R90 step 4). -/
def bLow (s : State) : Option State :=
  delayVisit s.cfg.tRstLow (fun s => { s with ph := .bSettle, sub := .entry }) s

/-- Phase B_SETTLE: `RstLine(1)`, then `Delay(T_RSTSETTLE)` and completion (R90 steps 5 to 7). -/
def bSettle (s : State) : Option State :=
  match s.sub with
  | .entry => some { rstLine true s with sub := .latch }
  | .latch | .ready | .clock => delayVisit s.cfg.tRstSettle complete s

/-- Phase K_OPEN: `BusBegin(ADDR)` (R91 step 1). -/
def kOpen (s : State) : State := { busBegin s with ph := .kHold, sub := .latch }

/-- Phase K_HOLD: `Delay(T_WAKEHOLD)` (R91 step 2). -/
def kHold (s : State) : Option State :=
  delayVisit s.cfg.tWakeHold (fun s => { s with ph := .kClose, sub := .latch }) s

/-- Phase K_CLOSE: `BusEnd()` and completion (R91 steps 3 and 4). -/
def kClose (s : State) : State := complete (busEnd s)

end Sys2Proof.Machine
end

