-- ==== Sys2Proof/Machine/ReadResponse.lean ====
section
/-! DEFINITION. The phases of READ_RESPONSE: the frame parser and the pairing check (R120 to R124). -/

namespace Sys2Proof.Machine

/-- Phase R_CHECK: no command recorded, nothing to compare with (R120 step 1, R122). -/
def rCheck (s : State) : State := if s.pendv then { s with ph := .rWait, sub := .latch } else abort .noPending s

/-- Phase R_WAIT: `WaitReady(TMO)` (R120 step 2). -/
def rWait (s : State) : Option State :=
  waitVisit s.tmo (fun s => { s with ph := .rOpen, sub := .latch }) (abort .rspWaitTimeout) s

/-- Phase R_OPEN: `BusBegin(ADDR)` (R120 step 3). -/
def rOpen (s : State) : State := { busBegin s with ph := .rStatus }

/-- Phase R_STATUS: the status byte; bit 0 must be set (R120 step 4). -/
def rStatus (s : State) : Option State :=
  askRead
    (fun b s =>
      let s := { s with st := b }
      if statusReady b then { s with ph := .rPre } else abortTxn .rspStatusNotReady s) s

/-- A byte that must have one value (R120 steps 5, 6, 7, 10): checked as soon as it has been read. -/
def expectByte (want : Byte) (k : Cause) (next : Phase) (s : State) : Option State :=
  askRead (fun b s => if b = want then { s with ph := next } else abortTxn k s) s

/-- Phase R_PRE (R120 step 5). -/
def rPre (s : State) : Option State := expectByte 0x00 .badPreamble .rSc1 s

/-- Phase R_SC1 (R120 step 6). -/
def rSc1 (s : State) : Option State := expectByte 0x00 .badStartCode1 .rSc2 s

/-- Phase R_SC2 (R120 step 7). -/
def rSc2 (s : State) : Option State := expectByte 0xFF .badStartCode2 .rLen s

/-- Phase R_LEN: not checked yet (R120 step 8). -/
def rLen (s : State) : Option State := askRead (fun b s => { s with lenr := b, ph := .rLcs }) s

/-- Phase R_LCS (R120 step 9). -/
def rLcs (s : State) : Option State :=
  askRead (fun b s => if lcsOk s.lenr b then { s with ph := .rTfi } else abortTxn .badLcs s) s

/-- Phase R_TFI (R120 step 10). -/
def rTfi (s : State) : Option State := expectByte 0xD5 .badTfi .rEcho s

/-- Phase R_ECHO: the pairing check, in nine bits (R120 step 11, R122). -/
def rEcho (s : State) : Option State :=
  askRead
    (fun b s =>
      let s := { s with echo := b }
      if echoOk s.pendcmd b then { s with ph := .rSize } else abortTxn .badEcho s) s

/-- Phase R_SIZE: `LEN < 2`, the payload length, the capacity check, the seed of the sum (R120 steps 12 to 14, R123).
R_DATA is skipped when the payload is empty (R34). -/
def rSize (s : State) : State :=
  if lenTooShort s.lenr then abortTxn .lenTooShort s
  else
    let s := { s with plen := s.lenr - 2 }
    if noSpace s.plen s.maxl then abortTxn .noSpace s
    else { s with sum := sumAdd 0xD5 s.echo, idx := 0, ph := if s.plen = 0 then .rDcs else .rData, sub := .latch }

/-- Phase R_DATA, one payload byte in two visits: it is read, then stored and summed (R120 step 15). -/
def rData (s : State) : Option State :=
  match s.sub with
  | .entry | .latch | .clock => askRead (fun b s => { s with rbyte := b, sub := .ready }) s
  | .ready =>
    let s := { writeRbuf s.idx.toNat s.rbyte s with sum := sumAdd s.sum s.rbyte, sub := .latch }
    some (if s.idx.toNat + 1 < s.plen.toNat then { s with idx := s.idx + 1 } else { s with ph := .rDcs })

/-- Phase R_DCS: a failure is logged distinctly (R120 step 16, R169). -/
def rDcs (s : State) : Option State :=
  askRead
    (fun b s =>
      if dcsOk s.sum b then { s with ph := .rPost }
      else abortTxn .badDcs { s with log := s.log ++ [.checksumFailure] }) s

/-- Phase R_POST: the POSTAMBLE is read and discarded (R120 step 17). -/
def rPost (s : State) : Option State := askRead (fun _ s => { s with ph := .rClose }) s

/-- Phase R_CLOSE: `BusEnd()` and completion (R120 steps 18 and 19). -/
def rClose (s : State) : State := complete (busEnd s)

end Sys2Proof.Machine
end

