-- ==== Sys2Proof/Machine/WriteCommand.lean ====
section
/-! DEFINITION. The phases of WRITE_COMMAND: the frame builder and the pairing record (R100 to R104). -/

namespace Sys2Proof.Machine

/-- `Emit(b)`: a rejected write aborts without a `BusEnd`, so nothing of the frame goes out (R101). -/
def emitByte (b : Byte) (next : State → State) (s : State) : Option State :=
  askWrite b (fun ok s => if ok then next (logEmitted b true s) else abort .writeRejected (logEmitted b false s)) s

/-- Phase W_CHECK (R100 steps 1 to 4, R102, R103): the pairing record is made after the `HLEN` check and before the
length check. -/
def wCheck (s : State) : State :=
  if s.hlen = 0 then abort .hdrEmpty s
  else
    let s := { s with pendcmd := readHdr s 0, pendv := true }
    if tooLong s.cfg s.hlen s.blen then abort .tooLong s
    else { s with lenr := BitVec.ofNat 8 (frameLen s.hlen s.blen), ph := .wOpen }

/-- Phase W_OPEN: `BusBegin(ADDR)` (R100 step 5). -/
def wOpen (s : State) : State := { busBegin s with idx := 0, ph := .wHead }

/-- Phase W_HEAD: PREAMBLE, STARTCODE1, STARTCODE2, LEN, LCS, TFI; with TFI the running sum is seeded (R100 steps 6 to
11). -/
def wHead (s : State) : Option State :=
  emitByte (headByte s)
    (fun s =>
      if s.idx.toNat < 5 then { s with idx := s.idx + 1 } else { s with sum := 0xD4, idx := 0, ph := .wHdr }) s

/-- Phase W_HDR: one header byte (R100 step 12). W_BODY is skipped when `BLEN = 0` (R34). -/
def wHdr (s : State) : Option State :=
  let b := readHdr s s.idx.toNat
  emitByte b
    (fun s =>
      let s := { s with sum := sumAdd s.sum b }
      if s.idx.toNat + 1 < s.hlen.toNat then { s with idx := s.idx + 1 }
      else { s with idx := 0, ph := if s.blen = 0 then .wDcs else .wBody }) s

/-- Phase W_BODY: one body byte (R100 step 13). -/
def wBody (s : State) : Option State :=
  let b := readBody s s.idx.toNat
  emitByte b
    (fun s =>
      let s := { s with sum := sumAdd s.sum b }
      if s.idx.toNat + 1 < s.blen.toNat then { s with idx := s.idx + 1 } else { s with ph := .wDcs }) s

/-- Phase W_DCS (R100 step 14). -/
def wDcs (s : State) : Option State := emitByte (dcsGen s.sum) (fun s => { s with ph := .wPost }) s

/-- Phase W_POST (R100 step 15). -/
def wPost (s : State) : Option State := emitByte s.cfg.postamble (fun s => { s with ph := .wCommit }) s

/-- Phase W_COMMIT: `BusEnd()` commits the frame; ACK_CHECK follows (R100 steps 16 and 17). -/
def wCommit (s : State) : State := { busEnd s with ph := .aWait, sub := .latch }

end Sys2Proof.Machine
end

