-- ==== Sys2Proof/Machine/Sequencer.lean ====
section
/-! DEFINITION. The sequencer: one visit of the current phase (R20, R34), and the run of an operation until it ends or
the engine waits for an answer. -/

namespace Sys2Proof.Machine

/-- One visit of the current phase (R20). `none`: the engine is idle, or the answer it asks for has not come. -/
def tick (s : State) : Option State :=
  match s.ph with
  | .idle => none
  | .wCheck => some (wCheck s)
  | .wOpen => some (wOpen s)
  | .wHead => wHead s
  | .wHdr => wHdr s
  | .wBody => wBody s
  | .wDcs => wDcs s
  | .wPost => wPost s
  | .wCommit => some (wCommit s)
  | .aWait => aWait s
  | .aOpen => some (aOpen s)
  | .aRead => aRead s
  | .aClose => some (aClose s)
  | .aEval => some (aEval s)
  | .rCheck => some (rCheck s)
  | .rWait => rWait s
  | .rOpen => some (rOpen s)
  | .rStatus => rStatus s
  | .rPre => rPre s
  | .rSc1 => rSc1 s
  | .rSc2 => rSc2 s
  | .rLen => rLen s
  | .rLcs => rLcs s
  | .rTfi => rTfi s
  | .rEcho => rEcho s
  | .rSize => some (rSize s)
  | .rData => rData s
  | .rDcs => rDcs s
  | .rPost => rPost s
  | .rClose => some (rClose s)
  | .gWait => gWait s
  | .bInit => some (bInit s)
  | .bLow => bLow s
  | .bSettle => bSettle s
  | .kOpen => some (kOpen s)
  | .kHold => kHold s
  | .kClose => some (kClose s)
  | .xClose => some (xClose s)

/-- How many visits that take no answer can still follow from a phase: phases of one operation count down in the order
of R34. -/
def phaseRank (ph : Phase) (sub : SubStep) : Nat :=
  match ph with
  | .idle => 0
  | .wCheck => 15 | .wOpen => 14 | .wHead => 13 | .wHdr => 12 | .wBody => 11 | .wDcs => 10 | .wPost => 9 | .wCommit => 8
  | .aWait => 7 | .aOpen => 6 | .aRead => 5 | .aClose => 4 | .aEval => 3
  | .rCheck => 17 | .rWait => 16 | .rOpen => 15 | .rStatus => 14 | .rPre => 13 | .rSc1 => 12 | .rSc2 => 11 | .rLen => 10
  | .rLcs => 9 | .rTfi => 8 | .rEcho => 7 | .rSize => 6 | .rData => if sub = .ready then 6 else 5 | .rDcs => 4 | .rPost => 3 | .rClose => 2
  | .gWait => 1
  | .bInit => if sub = .ready ∨ sub = .clock then 6 else 7
  | .bLow => 5 | .bSettle => if sub = .entry then 4 else 3
  | .kOpen => 3 | .kHold => 2 | .kClose => 1
  | .xClose => 1

/-- A bound on the visits that can follow: each one moves on in its operation, or takes an answer and moves back by at
most one. -/
def visitsLeft (s : State) : Nat :=
  phaseRank s.ph s.sub + 2 * (s.accepts.length + s.reads.length + s.readies.length + s.nows.length)

/-- At most `n` visits. -/
def runVisits : Nat → State → State
  | 0, s => s
  | n + 1, s =>
    match tick s with
    | none => s
    | some s' => runVisits n s'

/-- The engine runs until the operation ends or an answer is missing, as part of one step: the model's choice of a step
(R20, R57; entry 1). A hardware reset may cut the run short after any visit (`cutByReset`, R180). `visitsLeft` visits are
enough. -/
def resume (s : State) : State := runVisits (visitsLeft s) s

/-- A write of operation code `c` to `OPR`, whose first phase is `first`: ignored while `BUSY = 1` (R184), else the
operation starts (R35) and runs. -/
def operate (c : OpCode) (first : Phase) (s : State) : State :=
  if s.busy then s else resume (startOperation c first s)

/-- A write of a reserved code to `OPR`: ignored while `BUSY = 1` (R184), else rejected at once (R73). -/
def operateReserved (c : OpCode) (s : State) : State := if s.busy then s else rejectCode c s

/-- Bytes the chip puts on the bus: they answer the engine's `BusRead` calls, now or in its next read transaction
(R29 b, R49). -/
def offer (bs : List Byte) (s : State) : State := { s with reads := s.reads ++ bs }

/-- Bytes arrive from the chip, and the engine goes on. -/
def deliver (bs : List Byte) (s : State) : State := resume (offer bs s)

end Sys2Proof.Machine
end

