-- ==== Sys2Proof/Machine/Operations.lean ====
section
/-! DEFINITION. The meanings of the OPSEL rows: the host's write of the code to `OPR` (R35, R60, R73). -/

namespace Sys2Proof.Machine

/-- BEGIN (R90). -/
def execBegin (s : State) : Host.Outcome State Fault Refusal := .next (operate 0 .bInit s)

/-- WAKE (R91). -/
def execWake (s : State) : Host.Outcome State Fault Refusal := .next (operate 1 .kOpen s)

/-- WRITE_COMMAND, ACK_CHECK included (R100, R110). -/
def execWriteCommand (s : State) : Host.Outcome State Fault Refusal := .next (operate 2 .wCheck s)

/-- READ_RESPONSE (R120). -/
def execReadResponse (s : State) : Host.Outcome State Fault Refusal := .next (operate 3 .rCheck s)

/-- WAIT_READY (R141). -/
def execWaitReady (s : State) : Host.Outcome State Fault Refusal := .next (operate 4 .gWait s)

/-- RESERVED_5 (R73). -/
def execReserved5 (s : State) : Host.Outcome State Fault Refusal := .next (operateReserved 5 s)

/-- RESERVED_6 (R73). -/
def execReserved6 (s : State) : Host.Outcome State Fault Refusal := .next (operateReserved 6 s)

/-- RESERVED_7 (R73). -/
def execReserved7 (s : State) : Host.Outcome State Fault Refusal := .next (operateReserved 7 s)

end Sys2Proof.Machine
end

