-- ==== Sys2Proof/WellFormed.lean ====
section
/-! DEFINITION. Which instructions an encoding can carry (`Instr.wf`), and which frames satisfy the constraints that
a match and mask cannot express (`Instr.sound`, R72). -/

namespace Sys2Proof

/-- The frame's bytes after `TFI` are `LEN - 1` DATA bytes, `DCS` and `POSTAMBLE`, so a frame is `LEN + 7` bytes long
(R61, R75). The other instructions have no such count. -/
def Instr.wf : Instr → Bool
  | .cmdFrame len _ rest => rest.length == len.toNat + 1
  | .rspFrame len _ rest => rest.length == len.toNat + 1
  | .begin | .wake | .writeCommand | .readResponse | .waitReady | .reserved5 | .reserved6 | .reserved7 | .ackFrame
  | .statusByte _ => true

/-- The sum of a byte string modulo 256, in the order of the bytes (R82). -/
def byteSum : List Byte → Byte
  | [] => 0
  | b :: bs => b + byteSum bs

/-- The constraints of R61 that do not depend on the engine's state: both checksum invariants and `2 <= LEN`; for a
command frame also `LEN <= MAXLEN` and the emitted `POSTAMBLE` (R62). A received frame that fails one is still decoded
as a frame: the engine judges it (R74). -/
def Instr.sound (maxlen postamble : Byte) : Instr → Bool
  | .cmdFrame len lcs rest =>
    Instr.wf (.cmdFrame len lcs rest) && len + lcs == 0 && 2 ≤ len.toNat && len.toNat ≤ maxlen.toNat &&
      byteSum (0xD4 :: rest.take len.toNat) == 0 && rest.getLast? == some postamble
  | .rspFrame len lcs rest =>
    Instr.wf (.rspFrame len lcs rest) && len + lcs == 0 && 2 ≤ len.toNat && byteSum (0xD5 :: rest.take len.toNat) == 0
  | .begin | .wake | .writeCommand | .readResponse | .waitReady | .reserved5 | .reserved6 | .reserved7 | .ackFrame
  | .statusByte _ => true

end Sys2Proof
end

