-- ==== Sys2Proof/Decode.lean ====
section
/-! DEFINITION. Decoding of operation-select codes and of wire formats, total and rejecting by name (R60 to R66,
R72 to R74), and the encoder written from the same tables. -/

namespace Sys2Proof

/-- Why a byte string is no wire format of the opcode table. Such a byte string is not refused by the engine: it is
judged byte by byte when it is read (R74). -/
inductive DecodeError where
  /-- No byte at all. -/
  | noBytes
  /-- One byte with bit 0 clear: no `STATUS_BYTE` (R65). -/
  | statusNotReady
  /-- Fewer bytes than the format has. -/
  | truncated
  /-- More bytes than the format has. -/
  | trailingBytes
  /-- Byte 0 is not 0x00 (R61). -/
  | badPreamble
  /-- Byte 1 is not 0x00 (R61). -/
  | badStartCode1
  /-- Byte 2 is not 0xFF (R61). -/
  | badStartCode2
  /-- Byte 5 is neither 0xD4 nor 0xD5 (R61), and the string is not the ACK frame. -/
  | badTfi
deriving DecidableEq, Repr

/-- R60, R73: every operation-select code names a row. -/
def decodeOpCode (c : OpCode) : Instr :=
  match c.toNat with
  | 0 => .begin
  | 1 => .wake
  | 2 => .writeCommand
  | 3 => .readResponse
  | 4 => .waitReady
  | 5 => .reserved5
  | 6 => .reserved6
  | _ => .reserved7

/-- R64: the six bytes of the ACK frame. -/
def ackFrameBytes : List Byte := [0x00, 0x00, 0xFF, 0x00, 0xFF, 0x00]

/-- The number of bytes after `TFI` decides whether the frame is whole (R75). -/
def checkFrame (i : Instr) (len : Byte) (rest : List Byte) : Except DecodeError Instr :=
  if rest.length < len.toNat + 1 then .error .truncated
  else if len.toNat + 1 < rest.length then .error .trailingBytes
  else .ok i

/-- The wire format that a whole byte string is (R61 to R65, R72). -/
def decodeWire (bs : List Byte) : Except DecodeError Instr :=
  match bs with
  | [] => .error .noBytes
  | [b] => if b.getLsbD 0 then .ok (.statusByte (b.extractLsb' 1 7)) else .error .statusNotReady
  | p :: s1 :: s2 :: len :: lcs :: tfi :: rest =>
    if p :: s1 :: s2 :: len :: lcs :: tfi :: rest = ackFrameBytes then .ok .ackFrame
    else if p ≠ 0x00 then .error .badPreamble
    else if s1 ≠ 0x00 then .error .badStartCode1
    else if s2 ≠ 0xFF then .error .badStartCode2
    else if tfi = 0xD4 then checkFrame (.cmdFrame len lcs rest) len rest
    else if tfi = 0xD5 then checkFrame (.rspFrame len lcs rest) len rest
    else .error .badTfi
  | _ => .error .truncated

/-- Decoding on either channel. -/
def decode : Encoding → Except DecodeError Instr
  | .opsel c => .ok (decodeOpCode c)
  | .wire bs => decodeWire bs

/-- The first six bytes of a frame with the given `LEN`, `LCS` and `TFI` (R61). -/
def frameHead (len lcs tfi : Byte) : List Byte := [0x00, 0x00, 0xFF, len, lcs, tfi]

/-- The encoding of an instruction: its code (R60, R73), or its bytes (R61 to R65). -/
def encode : Instr → Encoding
  | .begin => .opsel 0
  | .wake => .opsel 1
  | .writeCommand => .opsel 2
  | .readResponse => .opsel 3
  | .waitReady => .opsel 4
  | .reserved5 => .opsel 5
  | .reserved6 => .opsel 6
  | .reserved7 => .opsel 7
  | .cmdFrame len lcs rest => .wire (frameHead len lcs 0xD4 ++ rest)
  | .rspFrame len lcs rest => .wire (frameHead len lcs 0xD5 ++ rest)
  | .ackFrame => .wire ackFrameBytes
  | .statusByte ignored => .wire [ignored ++ (1 : BitVec 1)]

/-- The bytes an instruction has on the bus; none for an operation-select code. -/
def wireBytes (i : Instr) : List Byte :=
  match encode i with
  | .opsel _ => []
  | .wire bs => bs

/-- The `n` bytes of a table word, the first byte in the most significant position (R72; entry 12). -/
def tableBytes : Nat → Nat → List Byte
  | 0, _ => []
  | n + 1, w => BitVec.ofNat 8 (w / 256 ^ n) :: tableBytes n w

/-- The bytes of the instruction a table word stands for: a frame row gives only the first six bytes, the `LEN + 1`
bytes after them being zeros where the word does not give them. -/
def paddedBytes (nbits w : Nat) : List Byte :=
  let bs := tableBytes (nbits / 8) w
  if bs = ackFrameBytes then bs
  else
    match bs with
    | _ :: _ :: _ :: len :: _ :: _ :: rest => bs ++ List.replicate (len.toNat + 1 - rest.length) 0x00
    | _ => bs

/-- The encoding a word of the opcode table stands for. A word of at most eight bits below 8 is an operation-select
code; any other is a byte string of the bus (entry 12: the rows WAKE, READ_RESPONSE, RESERVED_5, RESERVED_7 and
STATUS_BYTE share words, on different channels). -/
def tableEncoding (nbits w : Nat) : Encoding :=
  if nbits ≤ 8 ∧ w < 8 then .opsel (BitVec.ofNat 3 w) else .wire (paddedBytes nbits w)

/-- The instruction the decoder reads from a word of the opcode table. -/
def decodeTableWord (nbits w : Nat) : Option Instr :=
  match decode (tableEncoding nbits w) with
  | .ok i => some i
  | .error _ => none

end Sys2Proof
end

