-- ==== Sys2Proof/Machine/WireFormats.lean ====
section
/-! DEFINITION. The meanings of the wire-format rows: the byte string crosses the bus at the engine's port (R61 to
R66, R72; entries 10 and 11). -/

namespace Sys2Proof.Machine

/-- STATUS_BYTE (R65): the byte arrives from the chip. As byte 0 of a read transaction its bit 0 passes the test of
R_STATUS, or it is `ACKBUF[0]`. -/
def execStatusByte (ignored : BitVec 7) (s : State) : Host.Outcome State Fault Refusal :=
  .next (deliver (wireBytes (.statusByte ignored)) s)

/-- ACK_FRAME (R64, R110): the six bytes arrive from the chip. -/
def execAckFrame (s : State) : Host.Outcome State Fault Refusal := .next (deliver (wireBytes .ackFrame) s)

/-- RSP_FRAME (R63, R120): the frame arrives from the chip and is judged position by position (R121). -/
def execRspFrame (len lcs : Byte) (rest : List Byte) (s : State) : Host.Outcome State Fault Refusal :=
  .next (deliver (wireBytes (.rspFrame len lcs rest)) s)

/-- The engine stands at the head of a write transaction and the frame it is about to emit is `bytes`. -/
def aboutToEmit (bytes : List Byte) (s : State) : Bool :=
  s.ph == .wHead && s.idx == 0 && s.accepts.isEmpty && bytes == commandFrame s

/-- The bus accepts every byte of the frame (R48). -/
def acceptAll (bytes : List Byte) (s : State) : State := { s with accepts := List.replicate bytes.length true }

/-- CMD_FRAME (R62, R100): the engine only encodes it. When it is the frame the engine is about to emit, the bus takes
its bytes, one accepted `BusWrite` each. At any other time a command frame on the bus does not come from the engine;
it is a received byte string like any other and is judged by the same checks (R74). -/
def execCmdFrame (len lcs : Byte) (rest : List Byte) (s : State) : Host.Outcome State Fault Refusal :=
  let bytes := wireBytes (.cmdFrame len lcs rest)
  if aboutToEmit bytes s then .next (resume (acceptAll bytes s)) else .next (deliver bytes s)

end Sys2Proof.Machine
end

