-- ==== Sys2Proof/Machine/Dispatch.lean ====
section
/-! DEFINITION. The dispatch of an instruction to its meaning: one arm per row of the opcode table. -/

namespace Sys2Proof.Machine

def exec (i : Instr) (s : State) : Host.Outcome State Fault Refusal :=
  match i with
  | .begin => Sys2Proof.Machine.execBegin s
  | .wake => Sys2Proof.Machine.execWake s
  | .writeCommand => Sys2Proof.Machine.execWriteCommand s
  | .readResponse => Sys2Proof.Machine.execReadResponse s
  | .waitReady => Sys2Proof.Machine.execWaitReady s
  | .reserved5 => Sys2Proof.Machine.execReserved5 s
  | .reserved6 => Sys2Proof.Machine.execReserved6 s
  | .reserved7 => Sys2Proof.Machine.execReserved7 s
  | .cmdFrame len lcs rest => Sys2Proof.Machine.execCmdFrame len lcs rest s
  | .rspFrame len lcs rest => Sys2Proof.Machine.execRspFrame len lcs rest s
  | .ackFrame => Sys2Proof.Machine.execAckFrame s
  | .statusByte ignored => Sys2Proof.Machine.execStatusByte ignored s

end Sys2Proof.Machine
end

