-- ==== Sys2Proof/Machine/HostPort.lean ====
section
/-! DEFINITION. The fetch of the next instruction, and what every other input does: the host's register and buffer
accesses, the hardware reset, and the collaborators' answers (R30, R59, R168, R180, R184). -/

namespace Sys2Proof.Machine

/-- The next instruction: a host write to `OPR` (R35), or a byte string on the bus that is one wire format (R72).
Answers it with the state that no longer holds the input. `none`: the next input is no instruction, or there is none. -/
def fetch (s : State) : Option (Instr × State) :=
  match s.inputs with
  | .writeReg .opr v :: rest => some (decodeOpCode (BitVec.ofNat 3 v), { s with inputs := rest })
  | .wire bs :: rest =>
    match decodeWire bs with
    | .ok i => some (i, { s with inputs := rest })
    | .error _ => none
  | _ => none

/-- The hardware reset (R180): every register takes its reset value (R33), in whatever state it lands; an operation in
progress is abandoned without a `BusEnd` and without a result. What R33 leaves unspecified takes free values (entry 3).
The configuration constants, the host's buffers and the collaborators keep what they hold (R180, S15; entry 17). -/
def hardwareReset (s : State) : State :=
  let r := State.reset
  let s := scrub { s with pendcmd := Config.freeByte 12 s.fresh }
  { s with
    pendv := r.pendv
    ph := r.ph
    sub := r.sub
    xcause := r.xcause
    busy := r.busy
    opr := r.opr
    hlen := r.hlen
    blen := r.blen
    maxl := r.maxl
    tmo := r.tmo
    result := r.result
    cause := r.cause
    plen := r.plen
    rdyres := r.rdyres
    rstn := r.rstn }

/-- The first phase of the operation of a code (R34). The reserved codes have none (R73). -/
def firstPhase : OpCode → Option Phase
  | 0 => some .bInit
  | 1 => some .kOpen
  | 2 => some .wCheck
  | 3 => some .rCheck
  | 4 => some .gWait
  | _ => none

/-- A host write of `c` to `OPR`, before the engine's first visit: ignored while `BUSY = 1` (R184), else the start of the
operation (R35) or the rejection of a reserved code (R73). -/
def beginOperation (c : OpCode) (s : State) : State :=
  if s.busy then s
  else
    match firstPhase c with
    | some ph => startOperation c ph s
    | none => rejectCode c s

/-- Bytes on the bus, before the engine goes on: the accepted bytes of a command frame that it is about to emit, else
bytes from the chip (entries 10 and 11). -/
def landWire (bs : List Byte) (s : State) : State :=
  match decodeWire bs with
  | .ok (.cmdFrame _ _ _) => if aboutToEmit bs s then acceptAll bs s else offer bs s
  | _ => offer bs s

/-- The next input taken from the queue, if it is one that sets the engine going, before the engine's first visit. -/
def landNext (s : State) : State :=
  match s.inputs with
  | .writeReg .opr v :: rest => beginOperation (BitVec.ofNat 3 v) { s with inputs := rest }
  | .now t :: rest => { s with nows := s.nows ++ [t], inputs := rest }
  | .ready v :: rest => { s with readies := s.readies ++ [v], inputs := rest }
  | .accept v :: rest => { s with accepts := s.accepts ++ [v], inputs := rest }
  | .wire bs :: rest => landWire bs { s with inputs := rest }
  | _ => s

/-- The hardware reset in the middle of a run (R180, "at any time, whatever the engine was doing"): the next input lands,
the engine makes at most `n` visits, and the reset cuts what would follow (entry 22). -/
def cutByReset (n : Nat) (s : State) : State := hardwareReset (runVisits n (landNext s))

/-- A host access to a buffer, of bytes below index `top`: refused while `BUSY = 1` (R59, R185; entry 7). -/
def bufferAccess (top : Nat) (k : State → State) (s : State) : Host.Outcome State Fault Refusal :=
  if s.busy then .refused .bufferTouchedWhileBusy else if 256 < top then .fault .bufferIndex else .next (k s)

/-- What an input that is no instruction does. An answer of a collaborator is added to what it has ready, and the
engine goes on if it was waiting for it. -/
def hostInput (a : Input) (s : State) : Host.Outcome State Fault Refusal :=
  match a with
  | .writeReg r v => .next (writeLatch r v s)
  | .readReg r => .next { s with rdata := readReg r s, fresh := s.fresh + 1 }
  | .put b bs => bufferAccess bs.length (putBuffer b bs) s
  | .peek i => bufferAccess (i + 1) (fun s => { s with rdata := (Memory.read s.rbuf i).toNat }) s
  | .hwReset => .next (hardwareReset s)
  | .hwResetWithin n => .next (cutByReset n s)
  | .now t => .next (resume { s with nows := s.nows ++ [t] })
  | .ready v => .next (resume { s with readies := s.readies ++ [v] })
  | .accept v => .next (resume { s with accepts := s.accepts ++ [v] })
  | .wire bs => .next (deliver bs s)

end Sys2Proof.Machine
end

