-- ==== Sys2Proof/Machine/Step.lean ====
section
/-! DEFINITION. One step: the next input lands (R168), an instruction when it is one; with no input the engine goes on
with the operation in progress, or waits (R20, R142). -/

namespace Sys2Proof.Machine

/-- One step of the machine. -/
def step (s : State) : Host.Outcome State Fault Refusal :=
  match fetch s with
  | some (i, s') => exec i s'
  | none =>
    match s.inputs with
    | [] => .next (resume s)
    | a :: rest => hostInput a { s with inputs := rest }

/-- `s` with the instruction of a table word as the next input: a host write to `OPR`, for which the engine must be
idle (R184), or a byte string on the bus (entry 13). -/
def State.withFetchWord (s : State) (nbits w : Nat) : State :=
  match tableEncoding nbits w with
  | .opsel c => { s with busy := false, ph := .idle, inputs := .writeReg .opr c.toNat :: s.inputs }
  | .wire bs => { s with inputs := .wire bs :: s.inputs }

end Sys2Proof.Machine
end

