-- ==== Sys2Proof/Machine/Program.lean ====
section
/-! DEFINITION. The notation for operation sequences (R77): each line stands for the host's buffer contents and
register writes. -/

namespace Sys2Proof.Machine

/-- A line of R77. -/
inductive Line where
  | begin
  | wake
  /-- `WRITE_COMMAND hdr=[..] body=[..]`; the body may be omitted. -/
  | writeCommand (hdr body : List Byte)
  /-- `READ_RESPONSE max=<MAXL> tmo=<TMO>`; an omitted `tmo` stands for `RSPTMO`. -/
  | readResponse (max : Nat) (tmo : Option Nat)
  /-- `WAIT_READY tmo=<TMO>`. -/
  | waitReady (tmo : Nat)
deriving DecidableEq, Repr

/-- The register writes a line stands for (R60, R77). -/
def Line.inputs (p : Params) : Line → List Input
  | .begin => [.writeReg .opr 0]
  | .wake => [.writeReg .opr 1]
  | .writeCommand hdr body =>
    [.put .hdr hdr, .put .body body, .writeReg .hlen hdr.length, .writeReg .blen body.length, .writeReg .opr 2]
  | .readResponse max tmo => [.writeReg .maxl max, .writeReg .tmo (tmo.getD p.rsptmo), .writeReg .opr 3]
  | .waitReady tmo => [.writeReg .tmo tmo, .writeReg .opr 4]

/-- The inputs of a whole program, without the collaborators' answers. -/
def programInputs (p : Params) (lines : List Line) : List Input := lines.flatMap (Line.inputs p)

end Sys2Proof.Machine
end

