-- ==== Sys2Proof/Machine/Pseudocode.lean ====
section
/-! DEFINITION. The pseudocode of R90 to R92, R100, R101, R110, R120, R140 and R141, written straight down, one
operation a function with its working registers as local values. The machine does not call it: it is the normative
text (R20) that statements hold the phase machine against. -/

namespace Sys2Proof.Machine.Pseudo

/-- How far a piece of pseudocode got: on with a value; the operation ended; an answer has not come. -/
inductive Flow (α : Type) where
  | on (a : α) (s : State)
  | ended (s : State)
  | waiting

/-- One statement after another. -/
def Flow.andThen {α β : Type} (x : Flow α) (k : α → State → Flow β) : Flow β :=
  match x with
  | .on a s => k a s
  | .ended s => .ended s
  | .waiting => .waiting

/-- `Now()`. -/
def now (s : State) : Flow Nat :=
  match s.nows with
  | [] => .waiting
  | t :: ts => .on (clockValue s.cfg t) { s with nows := ts, trace := s.trace ++ [.now (clockValue s.cfg t)] }

/-- `Ready()`. -/
def ready (s : State) : Flow Bool :=
  match s.readies with
  | [] => .waiting
  | r :: rs => .on r { s with readies := rs, trace := s.trace ++ [.ready r] }

/-- `BusRead()`. -/
def busRead (s : State) : Flow Byte :=
  match s.reads with
  | [] => .waiting
  | b :: bs => .on b { s with reads := bs, txn := .reading, trace := s.trace ++ [.busRead b] }

/-- `Emit(b)` (R101). -/
def emit (b : Byte) (s : State) : Flow Unit :=
  match s.accepts with
  | [] => .waiting
  | true :: as =>
    .on () (logEmitted b true
      { s with accepts := as, txn := .writing, staged := s.staged ++ [b], trace := s.trace ++ [.busWrite b true] })
  | false :: as =>
    .ended (abort .writeRejected (logEmitted b false
      { s with accepts := as, txn := .writing, trace := s.trace ++ [.busWrite b false] }))

/-- `Emit` of one byte after another. -/
def emitAll : List Byte → State → Flow Unit
  | [], s => .on () s
  | b :: bs, s => (emit b s).andThen fun _ s => emitAll bs s

/-- The loop of `WaitReady` (R140), for at most `n` readiness samples. -/
def waitLoop (t0 t : Nat) : Nat → State → Flow Bool
  | 0, _ => .waiting
  | n + 1, s =>
    (ready s).andThen fun r s =>
      if r then .on true s
      else (now s).andThen fun v s => if t ≤ elapsed s.cfg v t0 then .on false s else waitLoop t0 t n s

/-- `WaitReady(t)` (R140). -/
def waitReady (t : Nat) (s : State) : Flow Bool :=
  (now s).andThen fun t0 s => waitLoop t0 t s.readies.length s

/-- The loop of `Delay` (R92), for at most `n` clock samples. -/
def delayLoop (t0 d : Nat) : Nat → State → Flow Unit
  | 0, _ => .waiting
  | n + 1, s => (now s).andThen fun v s => if d ≤ elapsed s.cfg v t0 then .on () s else delayLoop t0 d n s

/-- `Delay(d)` (R92). -/
def delay (d : Nat) (s : State) : Flow Unit :=
  (now s).andThen fun t0 s => delayLoop t0 d s.nows.length s

/-- BEGIN (R90). -/
def begin (s : State) : Flow Unit :=
  let s := { s with pendv := false, rdyres := false, pendcmd := Config.freeByte 12 s.fresh }
  let s := rstLine false (busInit (scrub s))
  (delay s.cfg.tRstLow s).andThen fun _ s =>
    (delay s.cfg.tRstSettle (rstLine true s)).andThen fun _ s => .ended (complete s)

/-- WAKE (R91). -/
def wake (s : State) : Flow Unit :=
  (delay s.cfg.tWakeHold (busBegin s)).andThen fun _ s => .ended (complete (busEnd s))

/-- `n` calls of `BusRead()`, kept in order. -/
def readBytes : Nat → State → Flow (List Byte)
  | 0, s => .on [] s
  | n + 1, s => (busRead s).andThen fun b s => (readBytes n s).andThen fun bs s => .on (b :: bs) s

/-- ACK_CHECK (R110). -/
def ackCheck (s : State) : Flow Unit :=
  (waitReady s.cfg.acktmo s).andThen fun r s =>
    if !r then .ended (abort .ackWaitTimeout s)
    else
      (readBytes 7 (busBegin s)).andThen fun bs s =>
        let s := busEnd s
        match bs with
        | st :: rest =>
          if st.getLsbD 0 = false then .ended (abort .ackStatusNotReady s)
          else if rest ≠ ackRom then .ended (abort .ackPatternMismatch s)
          else .ended (complete s)
        | [] => .waiting

/-- WRITE_COMMAND (R100). -/
def writeCommand (s : State) : Flow Unit :=
  if s.hlen = 0 then .ended (abort .hdrEmpty s)
  else
    let s := { s with pendcmd := Memory.read s.hdr 0, pendv := true }
    if s.cfg.maxlen.toNat < s.hlen.toNat + s.blen.toNat + 1 then .ended (abort .tooLong s)
    else
      let len := BitVec.ofNat 8 (s.hlen.toNat + s.blen.toNat + 1)
      let data := Memory.readBytes s.hdr 0 s.hlen.toNat ++ Memory.readBytes s.body 0 s.blen.toNat
      let sum := sumBytes 0xD4 data
      (emitAll ([0x00, 0x00, 0xFF, len, lcsGen len, 0xD4] ++ data ++ [dcsGen sum, s.cfg.postamble])
        (busBegin s)).andThen fun _ s => ackCheck (busEnd s)

/-- `raise AbortTxn(r, k)` (R161). -/
def abortTxn (k : Cause) (s : State) : Flow Unit := .ended (abort k (busEnd s))

/-- A read whose byte must have one value. -/
def expect (want : Byte) (k : Cause) (s : State) : Flow Unit :=
  (busRead s).andThen fun b s => if b = want then .on () s else abortTxn k s

/-- The payload loop of READ_RESPONSE (R120 step 15): `n` bytes from index `i`, and the running sum. -/
def payloadLoop : Nat → Nat → Byte → State → Flow Byte
  | 0, _, sum, s => .on sum s
  | n + 1, i, sum, s =>
    (busRead s).andThen fun b s =>
      payloadLoop n (i + 1) (sumAdd sum b) { s with rbuf := Memory.write s.rbuf i b }

/-- READ_RESPONSE from its first `BusRead` on (R120 steps 4 to 19). -/
def parseResponse (s : State) : Flow Unit :=
  (busRead s).andThen fun st s =>
  if st.getLsbD 0 = false then abortTxn .rspStatusNotReady s else
  (expect 0x00 .badPreamble s).andThen fun _ s =>
  (expect 0x00 .badStartCode1 s).andThen fun _ s =>
  (expect 0xFF .badStartCode2 s).andThen fun _ s =>
  (busRead s).andThen fun len s =>
  (busRead s).andThen fun lcs s =>
  if lcsOk len lcs = false then abortTxn .badLcs s else
  (expect 0xD5 .badTfi s).andThen fun _ s =>
  (busRead s).andThen fun echo s =>
  if echo.toNat ≠ s.pendcmd.toNat + 1 then abortTxn .badEcho s else
  if len.toNat < 2 then abortTxn .lenTooShort s else
  let s := { s with plen := len - 2 }
  if s.maxl.toNat < s.plen.toNat then abortTxn .noSpace s else
  (payloadLoop s.plen.toNat 0 (sumAdd 0xD5 echo) s).andThen fun sum s =>
  (busRead s).andThen fun dcs s =>
  if dcsOk sum dcs = false then abortTxn .badDcs { s with log := s.log ++ [.checksumFailure] } else
  (busRead s).andThen fun _ s => .ended (complete (busEnd s))

/-- READ_RESPONSE (R120). -/
def readResponse (s : State) : Flow Unit :=
  if s.pendv = false then .ended (abort .noPending s)
  else
    (waitReady s.tmo s).andThen fun r s =>
      if !r then .ended (abort .rspWaitTimeout s) else parseResponse (busBegin s)

/-- WAIT_READY (R141). -/
def waitReadyOp (s : State) : Flow Unit :=
  (waitReady s.tmo s).andThen fun r s => .ended (complete { s with rdyres := r })

/-- The pseudocode of an operation, started as R35 says: its final state, if every answer it asks for is there. The
reserved codes have no pseudocode beyond R73, and a wire format is no operation. -/
def finalState (c : OpCode) (s : State) : Option State :=
  let s := startOperation c .idle s
  let flow := match c.toNat with
    | 0 => begin s
    | 1 => wake s
    | 2 => writeCommand s
    | 3 => readResponse s
    | 4 => waitReadyOp s
    | _ => .waiting
  match flow with
  | .ended t => some t
  | .on _ _ | .waiting => none

end Sys2Proof.Machine.Pseudo
end

