-- ==== Sys2Proof/Safety.lean ====
section
/-! DEFINITION. The terms in which statements speak: the allowed phase transitions, the invariants of the machine, and
what an instruction leaves unchanged. -/

namespace Sys2Proof.Machine

/-- The phases that may follow a phase (R34): the normal order, the per-index and wait repetitions, the second visit of
B_INIT, R_DATA and B_SETTLE, which hold two statements (entry 20), and the abort edges. No other edge exists. -/
def Phase.successors : Phase → List Phase
  | .idle => []
  | .wCheck => [.wOpen, .idle]
  | .wOpen => [.wHead]
  | .wHead => [.wHead, .wHdr, .idle]
  | .wHdr => [.wHdr, .wBody, .wDcs, .idle]
  | .wBody => [.wBody, .wDcs, .idle]
  | .wDcs => [.wPost, .idle]
  | .wPost => [.wCommit, .idle]
  | .wCommit => [.aWait]
  | .aWait => [.aWait, .aOpen, .idle]
  | .aOpen => [.aRead]
  | .aRead => [.aRead, .aClose]
  | .aClose => [.aEval]
  | .aEval => [.idle]
  | .rCheck => [.rWait, .idle]
  | .rWait => [.rWait, .rOpen, .idle]
  | .rOpen => [.rStatus]
  | .rStatus => [.rPre, .xClose]
  | .rPre => [.rSc1, .xClose]
  | .rSc1 => [.rSc2, .xClose]
  | .rSc2 => [.rLen, .xClose]
  | .rLen => [.rLcs]
  | .rLcs => [.rTfi, .xClose]
  | .rTfi => [.rEcho, .xClose]
  | .rEcho => [.rSize, .xClose]
  | .rSize => [.rData, .rDcs, .xClose]
  | .rData => [.rData, .rDcs]
  | .rDcs => [.rPost, .xClose]
  | .rPost => [.rClose]
  | .rClose => [.idle]
  | .gWait => [.gWait, .idle]
  | .bInit => [.bInit, .bLow]
  | .bLow => [.bLow, .bSettle]
  | .bSettle => [.bSettle, .idle]
  | .kOpen => [.kHold]
  | .kHold => [.kHold, .kClose]
  | .kClose => [.idle]
  | .xClose => [.idle]

/-- The causes an operation can end with when it leaves a phase for IDLE (R34, R151). -/
def Phase.causes : Phase → List Cause
  | .wCheck => [.hdrEmpty, .tooLong]
  | .wHead | .wHdr | .wBody | .wDcs | .wPost => [.writeRejected]
  | .aWait => [.ackWaitTimeout]
  | .aEval => [.none, .ackStatusNotReady, .ackPatternMismatch]
  | .rCheck => [.noPending]
  | .rWait => [.rspWaitTimeout]
  | .rClose | .gWait | .bSettle | .kClose => [.none]
  | .idle | .wOpen | .wCommit | .aOpen | .aRead | .aClose | .rOpen | .rStatus | .rPre | .rSc1 | .rSc2 | .rLen | .rLcs
  | .rTfi | .rEcho | .rSize | .rData | .rDcs | .rPost | .bInit | .bLow | .kOpen | .kHold | .xClose => []

/-- The phases of READ_RESPONSE after its check of `PENDV`. -/
def Phase.readsResponse : Phase → Bool
  | .rWait | .rOpen | .rStatus | .rPre | .rSc1 | .rSc2 | .rLen | .rLcs | .rTfi | .rEcho | .rSize | .rData | .rDcs
  | .rPost | .rClose => true
  | .idle | .wCheck | .wOpen | .wHead | .wHdr | .wBody | .wDcs | .wPost | .wCommit | .aWait | .aOpen | .aRead | .aClose
  | .aEval | .rCheck | .gWait | .bInit | .bLow | .bSettle | .kOpen | .kHold | .kClose | .xClose => false

/-- The engine is at rest: idle, or waiting for an answer that has not come. -/
abbrev State.atRest (s : State) : Prop := tick s = none

/-- What holds of the registers and buffers in every state the machine goes through. -/
structure State.Inv (s : State) : Prop where
  /-- The constants fit the instance (R5). -/
  config : s.cfg.wf
  /-- `PH = IDLE` exactly when `BUSY = 0` (R20). -/
  busy_iff : s.busy = false ↔ s.ph = .idle
  /-- `RESULT` and `CAUSE` go together (R151). -/
  result_eq : s.result = s.cause.result
  /-- The `CLKW`-bit registers hold numbers of `CLKW` bits (R13, R23). -/
  tmo_lt : s.tmo < 2 ^ s.cfg.clkw
  t0_lt : s.t0 < 2 ^ s.cfg.clkw
  tmor_lt : s.tmor < 2 ^ s.cfg.clkw
  /-- `PLEN` is in the range 0..253 (R26). -/
  plen_le : s.plen.toNat ≤ 253
  /-- While payload bytes are stored, the next index is within the payload and the payload within the capacity (R42,
  R56). -/
  store_lt : s.ph = .rData → s.idx.toNat < s.plen.toNat ∧ s.plen.toNat ≤ s.maxl.toNat
  /-- `PENDCMD` is never read while it is unspecified (R12). -/
  pending : s.ph.readsResponse = true → s.pendv = true
  /-- The buffers are in canonical form. -/
  hdr_wf : s.hdr.wf
  body_wf : s.body.wf
  rbuf_wf : s.rbuf.wf

/-- How many bytes of the command frame have been emitted when the engine stands in a phase of the builder; `none` in
any other phase. -/
def emittedCount (s : State) : Option Nat :=
  match s.ph with
  | .wHead => some s.idx.toNat
  | .wHdr => some (6 + s.idx.toNat)
  | .wBody => some (6 + s.hlen.toNat + s.idx.toNat)
  | .wDcs => some (6 + s.hlen.toNat + s.blen.toNat)
  | .wPost => some (7 + s.hlen.toNat + s.blen.toNat)
  | .wCommit => some (8 + s.hlen.toNat + s.blen.toNat)
  | .idle | .wCheck | .wOpen | .aWait | .aOpen | .aRead | .aClose | .aEval | .rCheck | .rWait | .rOpen | .rStatus
  | .rPre | .rSc1 | .rSc2 | .rLen | .rLcs | .rTfi | .rEcho | .rSize | .rData | .rDcs | .rPost | .rClose | .gWait
  | .bInit | .bLow | .bSettle | .kOpen | .kHold | .kClose | .xClose => none

/-- The phases inside a transaction that carries no writes: the read transactions of ACK_CHECK and READ_RESPONSE, and
the empty one of WAKE (R47). -/
def Phase.inOtherTransaction : Phase → Bool
  | .aRead | .aClose | .rStatus | .rPre | .rSc1 | .rSc2 | .rLen | .rLcs | .rTfi | .rEcho | .rSize | .rData | .rDcs
  | .rPost | .rClose | .kHold | .kClose | .xClose => true
  | .idle | .wCheck | .wOpen | .wHead | .wHdr | .wBody | .wDcs | .wPost | .wCommit | .aWait | .aOpen | .aEval | .rCheck
  | .rWait | .rOpen | .gWait | .bInit | .bLow | .bSettle | .kOpen => false

/-- The index is where the phase says it can be (R20). -/
def indexInRange (s : State) : Prop :=
  match s.ph with
  | .wHead => s.idx.toNat < 6
  | .wHdr => s.idx.toNat < s.hlen.toNat
  | .wBody => s.idx.toNat < s.blen.toNat
  | _ => True

/-- A byte string is a command frame: the general frame with `TFI` = 0xD4, at least one DATA byte, and `LEN` at most
`MAXLEN` (R62). -/
def IsCommandFrame (p : Params) (f : List Byte) : Prop :=
  ∃ data : List Byte, 1 ≤ data.length ∧ data.length + 1 ≤ p.maxlen.toNat ∧ f = generalFrame 0xD4 data p.postamble

/-- The bus holds only command frames: while a frame is built, what is staged is the first part of the command frame
for the operands; and every frame that went out is a command frame (R47, R62, R86, R100). -/
structure State.BuilderInv (s : State) : Prop where
  /-- The length was checked before the frame is opened (R103), and `LENR` holds it (R67). -/
  length_ok : s.ph = .wOpen ∨ (emittedCount s).isSome →
    s.hlen ≠ 0 ∧ tooLong s.cfg s.hlen s.blen = false ∧ s.lenr.toNat = frameLen s.hlen s.blen
  /-- `IDX` stays inside its phase. -/
  index_ok : indexInRange s
  /-- The staged bytes are the frame's first bytes. -/
  staged_eq : ∀ n, emittedCount s = some n → s.staged = (commandFrame s).take n
  /-- `SUM` is the sum of `TFI` and the DATA bytes emitted so far (R82). -/
  sum_eq : ∀ n, emittedCount s = some n → 6 ≤ n → n ≤ 6 + s.hlen.toNat + s.blen.toNat →
    s.sum = sumBytes 0xD4 ((commandData s).take (n - 6))
  /-- The open transaction carries the writes. -/
  txn_ok : ∀ n, emittedCount s = some n → s.txn = if n = 0 then .opened else .writing
  /-- A transaction that WRITE_COMMAND did not open carries no writes, so its `BusEnd` commits nothing. -/
  no_writes : s.ph.inOtherTransaction = true → s.txn ≠ .writing
  /-- Every committed frame is a command frame. -/
  committed_ok : ∀ f ∈ s.committed, IsCommandFrame s.cfg f

/-! ## The samples a wait takes, and the ends of operations -/

/-- The operation has ended with result `r` and cause `k` (R35, R160). -/
def EndedWith (r : ResultCode) (k : Cause) (t : State) : Prop :=
  t.busy = false ∧ t.ph = .idle ∧ t.result = r ∧ t.cause = k

/-- `samples` are exactly the clock samples that `Delay(d)` takes: the first is latched, the last is the first one at
which at least `d` milliseconds have elapsed (R92). -/
def DelayTakes (p : Params) (d : Nat) (samples : List Nat) : Prop :=
  ∃ t0 early v, samples = t0 :: early ++ [v] ∧ (∀ x ∈ early, elapsed p (clockValue p x) (clockValue p t0) < d) ∧
    d ≤ elapsed p (clockValue p v) (clockValue p t0)

/-- `clock` and `signal` are exactly the samples that `WaitReady(limit)` takes when it answers `r`: every readiness
sample but the last is 0 and is followed by a clock sample before the limit; the last readiness sample is 1, or is 0
and is followed by the first clock sample at or after the limit (R140). -/
def WaitTakes (p : Params) (limit : Nat) (clock : List Nat) (signal : List Bool) (r : Bool) : Prop :=
  ∃ t0 early, (∀ x ∈ early, elapsed p (clockValue p x) (clockValue p t0) < limit) ∧
    signal = List.replicate early.length false ++ [r] ∧
    if r then clock = t0 :: early
    else ∃ v, clock = t0 :: early ++ [v] ∧ limit ≤ elapsed p (clockValue p v) (clockValue p t0)

/-- The events of clock samples. -/
def nowEvents (p : Params) (samples : List Nat) : List Event := samples.map fun x => .now (clockValue p x)

/-- The events of a readiness wait: the latch, then readiness and clock samples in turn (R140). -/
def waitEvents (p : Params) : List Nat → List Bool → List Event
  | t :: ts, r :: rs => .now (clockValue p t) :: .ready r :: waitEvents p ts rs
  | ts, _ => nowEvents p ts

/-- The events of accepted writes. -/
def writeEvents (bs : List Byte) : List Event := bs.map fun b => .busWrite b true

/-- The events of reads. -/
def readEvents (bs : List Byte) : List Event := bs.map .busRead

/-- The samples of a wait or a delay. -/
def Event.isSample : Event → Bool
  | .now _ | .ready _ => true
  | .busInit | .busBegin _ | .busEnd | .busWrite _ _ | .busRead _ | .rstLine _ => false

/-- The events an operation may cause (R44). -/
def mayCause (c : OpCode) (e : Event) : Bool :=
  match c.toNat, e with
  | 0, .busInit | 0, .rstLine _ | 0, .now _ => true
  | 1, .busBegin _ | 1, .busEnd | 1, .now _ => true
  | 2, .busBegin _ | 2, .busEnd | 2, .busWrite _ _ | 2, .busRead _ | 2, .ready _ | 2, .now _ => true
  | 3, .busBegin _ | 3, .busEnd | 3, .busRead _ | 3, .ready _ | 3, .now _ => true
  | 4, .ready _ | 4, .now _ => true
  | _, _ => false

/-- `t` is `u` after the hardware reset: the registers that R33 gives a value have it; the constants, the buffers, the
bus, the events so far and the answers are those of `u` (R180, S15). -/
structure AfterReset (u t : State) : Prop where
  ph : t.ph = .idle
  busy : t.busy = false
  pendv : t.pendv = false
  rdyres : t.rdyres = false
  opr : t.opr = 0
  hlen : t.hlen = 0
  blen : t.blen = 0
  maxl : t.maxl = 0
  tmo : t.tmo = 0
  result : t.result = .ok
  cause : t.cause = .none
  plen : t.plen = 0
  rstn : t.rstn = true
  cfg : t.cfg = u.cfg
  trace : t.trace = u.trace
  log : t.log = u.log
  txn : t.txn = u.txn
  staged : t.staged = u.staged
  committed : t.committed = u.committed
  accepts : t.accepts = u.accepts
  reads : t.reads = u.reads
  readies : t.readies = u.readies
  nows : t.nows = u.nows
  hdr : t.hdr = u.hdr
  body : t.body = u.body
  rbuf : t.rbuf = u.rbuf
  inputs : t.inputs = u.inputs
  rdata : t.rdata = u.rdata

/-- The inputs that set the engine going: a write of a code to `OPR` while idle, and the collaborators' answers. -/
def SetsGoing (s : State) : Input → Prop
  | .writeReg .opr _ => s.busy = false ∧ s.ph = .idle
  | .now _ | .ready _ | .accept _ | .wire _ => True
  | .writeReg _ _ | .readReg _ | .put _ _ | .peek _ | .hwReset | .hwResetWithin _ => False

/-! ## What an instruction leaves unchanged -/

/-- The configuration and the operand latches `HLEN`, `BLEN`, `MAXL`, `TMO` are unchanged. -/
def KeepsLatches (s t : State) : Prop :=
  t.cfg = s.cfg ∧ t.hlen = s.hlen ∧ t.blen = s.blen ∧ t.maxl = s.maxl ∧ t.tmo = s.tmo

/-- The pairing record is unchanged. -/
def KeepsPairing (s t : State) : Prop := t.pendcmd = s.pendcmd ∧ t.pendv = s.pendv

/-- Every byte of `HDR` and `BODY` reads as before. -/
def KeepsCommandBuffers (s t : State) : Prop :=
  ∀ i, Memory.read t.hdr i = Memory.read s.hdr i ∧ Memory.read t.body i = Memory.read s.body i

/-- Every byte of `RBUF` reads as before. -/
def KeepsRbuf (s t : State) : Prop := ∀ i, Memory.read t.rbuf i = Memory.read s.rbuf i

/-- What the operation in progress decides only at its end: `RESULT` and `CAUSE` are unchanged while `BUSY` stays 1
(R35). -/
def ResultAtEnd (s t : State) : Prop := t.busy = true → t.result = s.result ∧ t.cause = s.cause

/-- The working registers, `PH` and the sequencer's own fields, and the queues of the outside are not compared: two
states are alike if everything else the host or the bus can see is equal, `PENDCMD` only where it holds a record. -/
structure Alike (s t : State) : Prop where
  cfg : s.cfg = t.cfg
  pendv : s.pendv = t.pendv
  pendcmd : s.pendv = true → s.pendcmd = t.pendcmd
  busy : s.busy = t.busy
  ph : s.ph = t.ph
  opr : s.opr = t.opr
  hlen : s.hlen = t.hlen
  blen : s.blen = t.blen
  maxl : s.maxl = t.maxl
  tmo : s.tmo = t.tmo
  result : s.result = t.result
  cause : s.cause = t.cause
  plen : s.plen = t.plen
  rdyres : s.rdyres = t.rdyres
  rstn : s.rstn = t.rstn
  hdr : s.hdr = t.hdr
  body : s.body = t.body
  rbuf : s.rbuf = t.rbuf
  txn : s.txn = t.txn
  staged : s.staged = t.staged
  committed : s.committed = t.committed
  accepts : s.accepts = t.accepts
  reads : s.reads = t.reads
  readies : s.readies = t.readies
  nows : s.nows = t.nows
  inputs : s.inputs = t.inputs
  trace : s.trace = t.trace

end Sys2Proof.Machine
end

