-- ==== Sys2Proof/Certificates/Slice0/Obligations.lean ====
section
/-! DEFINITION. The statements for the provers, in the order of the spec: encodings, the calculator, the operations,
aborts, the host's interface, reset, and the rules of the whole machine. -/

open Sys2Proof Sys2Proof.Machine

/-! ## Encodings -/

/-- R60 to R65, R72: decoding the encoding of a well-formed instruction gives it back. -/
def Obligations.DecodeOfEncodeIsIdentity : Prop :=
  ∀ i : Instr, i.wf = true → decode (encode i) = .ok i

/-- R60 to R65, R72: what the decoder accepts is well-formed and has that one encoding. -/
def Obligations.EncodeOfDecodeIsIdentity : Prop :=
  ∀ (e : Encoding) (i : Instr), decode e = .ok i → i.wf = true ∧ encode i = e

/-- Words written out from R60, R62 to R65 (V2.3-a, V3.1-a, R64, R65) decode to the rows they stand for. -/
def Obligations.SpecWordsDecode : Prop :=
  decode (.opsel 0b010#3) = .ok .writeCommand ∧ decode (.opsel 0b011#3) = .ok .readResponse ∧
    decode (.opsel 0b110#3) = .ok .reserved6 ∧
    decode (.wire [0x00, 0x00, 0xFF, 0x02, 0xFE, 0xD4, 0x02, 0x2A, 0x00]) =
      .ok (.cmdFrame 0x02 0xFE [0x02, 0x2A, 0x00]) ∧
    decode (.wire [0x00, 0x00, 0xFF, 0x06, 0xFA, 0xD5, 0x03, 0x32, 0x01, 0x06, 0x07, 0xE8, 0x00]) =
      .ok (.rspFrame 0x06 0xFA [0x03, 0x32, 0x01, 0x06, 0x07, 0xE8, 0x00]) ∧
    decode (.wire [0x00, 0x00, 0xFF, 0x00, 0xFF, 0x00]) = .ok .ackFrame ∧
    decode (.wire [0x03]) = .ok (.statusByte 0b0000001#7) ∧ decode (.wire [0xFE]) = .error .statusNotReady

/-- A step runs the instruction it fetches: a host write to `OPR`, or a byte string on the bus that is one wire
format; the step takes the input away and does nothing else. The queue that
carries both is the model's form (entries 10, 13, 14). -/
def Obligations.StepRunsFetchedInstruction : Prop :=
  (∀ (s : State) (v : Nat) (rest : List Input), s.inputs = .writeReg .opr v :: rest →
    step s = exec (decodeOpCode (BitVec.ofNat 3 v)) { s with inputs := rest }) ∧
  (∀ (s : State) (bs : List Byte) (i : Instr) (rest : List Input), s.inputs = .wire bs :: rest →
    decode (.wire bs) = .ok i → step s = exec i { s with inputs := rest })

/-! ## The checksum calculator -/

/-- R80, R81: `LcsGen` is the negation modulo 256; the check holds exactly when the sum is 0 modulo 256, so one `lcs`
passes for each `len`; the corner cases and examples of both rules. -/
def Obligations.LengthChecksum : Prop :=
  (∀ len lcs : Byte, (lcsGen len).toNat = (256 - len.toNat) % 256 ∧ lcsGen len = (len ^^^ 0xFF) + 1 ∧
    (len.toNat + (lcsGen len).toNat) % 256 = 0 ∧ (lcsOk len lcs = true ↔ (len.toNat + lcs.toNat) % 256 = 0) ∧
    (lcsOk len lcs = true ↔ lcs = lcsGen len)) ∧
  lcsGen 0x00 = 0x00 ∧ lcsGen 0x80 = 0x80 ∧ lcsGen 0xFF = 0x01 ∧ lcsGen 0x01 = 0xFF ∧ lcsGen 0x02 = 0xFE ∧
  lcsOk 0x00 0x00 = true ∧ lcsOk 0x00 0xFF = false ∧ lcsOk 0xFF 0xFF = false ∧ lcsOk 0x06 0xFA = true ∧
  lcsOk 0x06 0xEA = false

/-- R82: the running sum is the sum modulo 256, whatever the order of the bytes; one byte raised and another lowered
by the same amount are not noticed. -/
def Obligations.RunningSumIgnoresOrder : Prop :=
  ∀ (seed : Byte) (bs cs : List Byte),
    (sumBytes seed bs).toNat = (seed.toNat + (bs.map BitVec.toNat).sum) % 256 ∧
      (bs.Perm cs → sumBytes seed bs = sumBytes seed cs) ∧
      ∀ a b d : Byte, sumBytes seed ((a + d) :: (b - d) :: bs) = sumBytes seed (a :: b :: bs)

/-- R83, R84: `DcsGen` is the negation modulo 256; the check compares all eight bits, so one `dcs` passes for each
`sum`; a `DCS` with one bit flipped is rejected, and so is a frame with one payload byte changed; two changes that
cancel pass; the corner cases and examples of both rules. -/
def Obligations.DataChecksum : Prop :=
  (∀ sum dcs : Byte, (dcsGen sum).toNat = (256 - sum.toNat) % 256 ∧
    (dcsOk sum dcs = true ↔ (sum.toNat + dcs.toNat) % 256 = 0) ∧ (dcsOk sum dcs = true ↔ dcs = dcsGen sum)) ∧
  (∀ (sum dcs : Byte) (k : Nat), k < 8 → dcsOk sum dcs = true → dcsOk sum (dcs ^^^ (1#8 <<< k)) = false) ∧
  (∀ (seed dcs b b' : Byte) (before after : List Byte), b ≠ b' →
    dcsOk (sumBytes seed (before ++ b :: after)) dcs = true →
    dcsOk (sumBytes seed (before ++ b' :: after)) dcs = false) ∧
  (∀ (seed dcs a b d : Byte) (bs : List Byte),
    dcsOk (sumBytes seed ((a + d) :: (b - d) :: bs)) dcs = dcsOk (sumBytes seed (a :: b :: bs)) dcs) ∧
  dcsGen 0x00 = 0x00 ∧ dcsGen 0x80 = 0x80 ∧ dcsGen 0xD6 = 0x2A ∧ dcsOk 0x18 0xE8 = true ∧ dcsOk 0x18 0xE9 = false

/-- R85, the row of the clock: the elapsed time is exact across one wrap of the clock. -/
def Obligations.ElapsedIsExactAcrossOneWrap : Prop :=
  ∀ (p : Params) (t0 d : Nat), d < 2 ^ p.clkw → elapsed p (clockValue p (t0 + d)) (clockValue p t0) = d

/-! ## BEGIN, WAKE, WAIT_READY -/

/-- R90: BEGIN, with the samples its two delays take, ends with `Ok`, and its events are exactly those of the rule. -/
def Obligations.BeginCompletes : Prop :=
  ∀ (s : State) (low settle rest : List Nat), s.busy = false → s.nows = low ++ settle ++ rest →
    DelayTakes s.cfg s.cfg.tRstLow low → DelayTakes s.cfg s.cfg.tRstSettle settle →
    ∃ t, exec .begin s = .next t ∧ EndedWith .ok .none t ∧ t.pendv = false ∧ t.rdyres = false ∧ t.rstn = true ∧
      t.opr = 0 ∧ t.plen = 0 ∧ t.nows = rest ∧
      t.trace = s.trace ++ [.busInit, .rstLine false] ++ nowEvents s.cfg low ++ [.rstLine true] ++ nowEvents s.cfg settle

/-- The frame of BEGIN (R90): the operand latches, the buffers, the bus transaction and every answer but clock samples
are as before; `RESULT` and `CAUSE` change only at the end. That the transaction, the staged bytes and the bytes the chip
has to send are as before across `BusInit` is the model's choice (entry 17). -/
def Obligations.BeginFrame : Prop :=
  ∀ s t : State, s.busy = false → exec .begin s = .next t →
    KeepsLatches s t ∧ KeepsCommandBuffers s t ∧ KeepsRbuf s t ∧ ResultAtEnd s t ∧ t.txn = s.txn ∧
      t.staged = s.staged ∧ t.committed = s.committed ∧ t.accepts = s.accepts ∧ t.reads = s.reads ∧
      t.readies = s.readies ∧ t.inputs = s.inputs ∧ t.rdata = s.rdata ∧ t.log = s.log

/-- R91, R92: WAKE holds one empty transaction open for exactly the samples that `Delay(T_WAKEHOLD)` takes, and ends
with `Ok`; the pairing record is unchanged. -/
def Obligations.WakeCompletes : Prop :=
  ∀ (s : State) (hold rest : List Nat), s.busy = false → s.nows = hold ++ rest →
    DelayTakes s.cfg s.cfg.tWakeHold hold →
    ∃ t, exec .wake s = .next t ∧ EndedWith .ok .none t ∧ t.opr = 1 ∧ t.plen = 0 ∧ t.pendcmd = s.pendcmd ∧
      t.pendv = s.pendv ∧ t.nows = rest ∧ t.txn = .closed ∧ t.committed = s.committed ∧
      t.trace = s.trace ++ [.busBegin s.cfg.addr] ++ nowEvents s.cfg hold ++ [.busEnd]

/-- R140, R141: WAIT_READY ends with `Ok` and with the answer of `WaitReady(TMO)` in `RDYRES`, after exactly the
samples of the rule. -/
def Obligations.WaitReadyCompletes : Prop :=
  ∀ (s : State) (clock rest : List Nat) (signal rest' : List Bool) (r : Bool), s.busy = false →
    s.nows = clock ++ rest → s.readies = signal ++ rest' → WaitTakes s.cfg s.tmo clock signal r →
    ∃ t, exec .waitReady s = .next t ∧ EndedWith .ok .none t ∧ t.rdyres = r ∧ t.opr = 4 ∧ t.plen = 0 ∧
      t.pendcmd = s.pendcmd ∧ t.pendv = s.pendv ∧ t.nows = rest ∧ t.readies = rest' ∧ t.txn = s.txn ∧
      t.trace = s.trace ++ waitEvents s.cfg clock signal

/-- The frame of WAKE and WAIT_READY (R91, R141): the latches, the pairing record, the buffers, `RSTN` and what the bus
holds are as before; WAKE also keeps `RDYRES`. -/
def Obligations.WakeAndWaitReadyFrame : Prop :=
  ∀ (i : Instr) (s t : State), i = .wake ∨ i = .waitReady → s.busy = false → exec i s = .next t →
    KeepsLatches s t ∧ KeepsPairing s t ∧ KeepsCommandBuffers s t ∧ KeepsRbuf s t ∧ ResultAtEnd s t ∧
      t.rstn = s.rstn ∧ (i = .wake → t.rdyres = s.rdyres) ∧ (i = .waitReady → t.txn = s.txn ∧ t.staged = s.staged) ∧
      t.committed = s.committed ∧ t.accepts = s.accepts ∧ t.reads = s.reads ∧ t.inputs = s.inputs ∧
      t.rdata = s.rdata ∧ t.log = s.log

/-! ## WRITE_COMMAND and ACK_CHECK -/

/-- R62, R86: the command frame for admitted operands is `HLEN + BLEN + 8` bytes long, its `LEN` byte is
`HLEN + BLEN + 1`, and it satisfies both checksum invariants. -/
def Obligations.CommandFrameInvariants : Prop :=
  ∀ s : State, s.hlen ≠ 0 → tooLong s.cfg s.hlen s.blen = false →
    ∃ len lcs dcs : Byte, commandFrame s =
        [0x00, 0x00, 0xFF, len, lcs, 0xD4] ++ commandData s ++ [dcs, s.cfg.postamble] ∧
      len.toNat = s.hlen.toNat + s.blen.toNat + 1 ∧ (commandFrame s).length = s.hlen.toNat + s.blen.toNat + 8 ∧
      (len.toNat + lcs.toNat) % 256 = 0 ∧
      (0xD4 + ((commandData s).map BitVec.toNat).sum + dcs.toNat) % 256 = 0

/-- R41: the frame for header `h` and body `b` is the frame for header `{h, b}` and an empty body. -/
def Obligations.HeaderBodySplitDoesNotMatter : Prop :=
  ∀ s : State, s.hlen.toNat + s.blen.toNat ≤ 255 →
    commandFrame
      { s with
        hdr := Memory.writeBytes s.hdr s.hlen.toNat (Memory.readBytes s.body 0 s.blen.toNat)
        hlen := s.hlen + s.blen
        blen := 0 } = commandFrame s

/-- R100, R110: with admitted operands, every write accepted, the ready signal within `ACKTMO` and the seven bytes of
an ACK read, WRITE_COMMAND ends with `Ok`, has recorded the command code and committed exactly its command frame, and
its events are exactly those of the rules, in order. -/
def Obligations.WriteCommandCompletes : Prop :=
  ∀ (s : State) (accepted : List Bool) (clock rest : List Nat) (signal rest' : List Bool) (st : Byte)
    (more : List Byte), s.busy = false → s.hlen ≠ 0 → tooLong s.cfg s.hlen s.blen = false →
    s.accepts = List.replicate (s.hlen.toNat + s.blen.toNat + 8) true ++ accepted →
    s.nows = clock ++ rest → s.readies = signal ++ rest' → WaitTakes s.cfg s.cfg.acktmo clock signal true →
    s.reads = st :: ackRom ++ more → st.getLsbD 0 = true →
    ∃ t, exec .writeCommand s = .next t ∧ EndedWith .ok .none t ∧ t.opr = 2 ∧ t.plen = 0 ∧
      t.pendcmd = Memory.read s.hdr 0 ∧ t.pendv = true ∧ t.txn = .closed ∧
      t.committed = s.committed ++ [commandFrame s] ∧ t.accepts = accepted ∧ t.nows = rest ∧ t.readies = rest' ∧
      t.reads = [] ∧
      t.trace = s.trace ++ [.busBegin s.cfg.addr] ++ writeEvents (commandFrame s) ++ [.busEnd] ++
        waitEvents s.cfg clock signal ++ [.busBegin s.cfg.addr] ++ readEvents (st :: ackRom) ++ [.busEnd]

/-- R110: on the other answers ACK_CHECK aborts: a wait that times out reads nothing; otherwise all seven bytes are
read, whatever they are, and the verdict is formed on them, the status bit first. -/
def Obligations.AckCheckVerdicts : Prop :=
  (∀ (s : State) (clock rest : List Nat) (signal rest' : List Bool), s.ph = .aWait → s.sub = .latch →
    s.nows = clock ++ rest → s.readies = signal ++ rest' → WaitTakes s.cfg s.cfg.acktmo clock signal false →
    EndedWith .timeout .ackWaitTimeout (resume s) ∧ (resume s).reads = s.reads ∧
      (resume s).trace = s.trace ++ waitEvents s.cfg clock signal) ∧
  (∀ (s : State) (clock rest : List Nat) (signal rest' : List Bool) (buf : Vector Byte 7) (more : List Byte),
    s.ph = .aWait → s.sub = .latch → s.nows = clock ++ rest → s.readies = signal ++ rest' →
    WaitTakes s.cfg s.cfg.acktmo clock signal true → s.reads = buf.toList ++ more →
    EndedWith
      (if buf[0].getLsbD 0 = false then .invalidAck else if buf.toList.tail ≠ ackRom then .invalidAck else .ok)
      (if buf[0].getLsbD 0 = false then .ackStatusNotReady
        else if buf.toList.tail ≠ ackRom then .ackPatternMismatch else .none)
      (resume s) ∧ (resume s).pendcmd = s.pendcmd ∧ (resume s).pendv = s.pendv ∧
      (resume s).trace = s.trace ++ waitEvents s.cfg clock signal ++ [.busBegin s.cfg.addr] ++
        readEvents buf.toList ++ [.busEnd])

/-- R111: of all seven-byte reads exactly 2^7 are accepted: those with bit 0 of the first byte set and the other six
bytes equal to the constant. -/
def Obligations.AckAcceptsExactlyOneHundredTwentyEight : Prop :=
  (∀ buf : Vector Byte 7, ackVerdict buf = .none ↔
    ∃ h : BitVec 7, buf = #v[h ++ 1#1, 0x00, 0x00, 0xFF, 0x00, 0xFF, 0x00]) ∧
  ∀ h h' : BitVec 7, (#v[h ++ 1#1, 0x00, 0x00, 0xFF, 0x00, 0xFF, 0x00] : Vector Byte 7) =
    #v[h' ++ 1#1, 0x00, 0x00, 0xFF, 0x00, 0xFF, 0x00] → h = h'

/-- R103: an empty header and an oversized command are refused with `InvalidFrame` before any bus event; the first
leaves the pairing record as it was, the second has replaced it. The sum is formed without wrap-around. -/
def Obligations.WriteCommandChecksLengths : Prop :=
  ∀ s : State, s.busy = false →
    (s.hlen = 0 → ∃ t, exec .writeCommand s = .next t ∧ EndedWith .invalidFrame .hdrEmpty t ∧
      t.pendcmd = s.pendcmd ∧ t.pendv = s.pendv ∧ t.trace = s.trace ∧ t.txn = s.txn ∧ t.staged = s.staged) ∧
    (s.hlen ≠ 0 → s.cfg.maxlen.toNat < s.hlen.toNat + s.blen.toNat + 1 → ∃ t, exec .writeCommand s = .next t ∧
      EndedWith .invalidFrame .tooLong t ∧ t.pendcmd = Memory.read s.hdr 0 ∧ t.pendv = true ∧ t.trace = s.trace ∧
      t.txn = s.txn ∧ t.staged = s.staged)

/-- R101: when the bus rejects byte `k` of the frame, the engine aborts at once: no further `BusWrite`, no `BusEnd`, so
nothing of the frame goes out; ACK_CHECK is not run, and `PENDCMD` keeps the recorded code. That the driver still holds
the staged bytes then is the model's choice (entry 17). -/
def Obligations.RejectedWriteSendsNothing : Prop :=
  ∀ (s : State) (k : Nat) (later : List Bool), s.busy = false → s.hlen ≠ 0 →
    tooLong s.cfg s.hlen s.blen = false → k < s.hlen.toNat + s.blen.toNat + 8 →
    s.accepts = List.replicate k true ++ false :: later →
    ∃ t b, exec .writeCommand s = .next t ∧ EndedWith .invalidFrame .writeRejected t ∧ t.committed = s.committed ∧
      t.staged = (commandFrame s).take k ∧ (commandFrame s)[k]? = some b ∧ t.pendcmd = Memory.read s.hdr 0 ∧
      t.pendv = true ∧ t.accepts = later ∧
      t.trace = s.trace ++ [.busBegin s.cfg.addr] ++ writeEvents ((commandFrame s).take k) ++ [.busWrite b false]

/-- R102: whatever happens later, a WRITE_COMMAND with a non-empty header records its first header byte; the record
is not undone by a failure. -/
def Obligations.WriteCommandRecordsTheCommand : Prop :=
  ∀ s : State, s.busy = false → s.hlen ≠ 0 →
    ∃ t, exec .writeCommand s = .next t ∧ t.pendcmd = Memory.read s.hdr 0 ∧ t.pendv = true

/-- The frame of WRITE_COMMAND (R100, R110): the latches, every byte of `HDR`, `BODY` and `RBUF`, `RDYRES` and `RSTN`
are as before; what went out on the bus is nothing or its one command frame. -/
def Obligations.WriteCommandFrame : Prop :=
  ∀ s t : State, s.busy = false → exec .writeCommand s = .next t →
    KeepsLatches s t ∧ KeepsCommandBuffers s t ∧ KeepsRbuf s t ∧ ResultAtEnd s t ∧ t.rdyres = s.rdyres ∧
      t.rstn = s.rstn ∧ t.plen = 0 ∧ t.inputs = s.inputs ∧ t.rdata = s.rdata ∧
      (t.committed = s.committed ∨ t.committed = s.committed ++ [commandFrame s])

/-- R90, R91, R100, R110, R120, R141: the phase machine of every operation is its pseudocode, for the answers that the
collaborators have when it starts: if they have every answer that the pseudocode asks for, `exec` gives exactly the
pseudocode's final state. If they have not, the engine stays busy: that it waits so, and that `exec` is one step of the
machine, is the model's choice (entry 1). Answers that come later: `AnswersMayComeLater`. -/
def Obligations.PhaseMachineIsThePseudocode : Prop :=
  ∀ (c : OpCode) (s : State), s.busy = false → c.toNat ≤ 4 →
    match Pseudo.finalState c s with
    | some t => exec (decodeOpCode c) s = .next t
    | none => ∃ t, exec (decodeOpCode c) s = .next t ∧ t.busy = true

/-! ## READ_RESPONSE -/

/-- R125: the round trip. A response built for the recorded command is accepted: `Ok`, the length in `PLEN`, the
payload in `RBUF`, no other byte of `RBUF` changed, and one read transaction of exactly `LEN + 8` reads. -/
def Obligations.ReadResponseRoundTrip : Prop :=
  ∀ (s : State) (clock rest : List Nat) (signal rest' : List Bool) (st post : Byte) (payload more : List Byte),
    s.busy = false → s.pendv = true → s.pendcmd ≠ 0xFF → payload.length ≤ s.maxl.toNat → payload.length ≤ 253 →
    s.nows = clock ++ rest → s.readies = signal ++ rest' → WaitTakes s.cfg s.tmo clock signal true →
    st.getLsbD 0 = true → s.reads = st :: generalFrame 0xD5 ((s.pendcmd + 1) :: payload) post ++ more →
    ∃ t, exec .readResponse s = .next t ∧ EndedWith .ok .none t ∧ t.opr = 3 ∧ t.plen.toNat = payload.length ∧
      (∀ i, i < payload.length → Memory.read t.rbuf i = payload.getD i 0) ∧
      (∀ i, payload.length ≤ i → Memory.read t.rbuf i = Memory.read s.rbuf i) ∧
      t.pendcmd = s.pendcmd ∧ t.pendv = true ∧ t.txn = .closed ∧ t.nows = rest ∧ t.readies = rest' ∧
      t.trace = s.trace ++ waitEvents s.cfg clock signal ++ [.busBegin s.cfg.addr] ++
        readEvents (st :: generalFrame 0xD5 ((s.pendcmd + 1) :: payload) post) ++ [.busEnd]

/-- R121: the positional checks. From the first read on, each check that fails aborts through `BusEnd` at once, with
its own cause, after exactly the reads of the table and with `RBUF` unchanged; a byte after the failed one is never
read. -/
def Obligations.ResponseChecksByPosition : Prop :=
  ∀ (s : State) (st pre sc1 sc2 len lcs tfi echo : Byte) (more : List Byte), s.ph = .rStatus →
    let fails := fun (bytes : List Byte) (k : Cause) =>
      EndedWith .invalidFrame k (resume s) ∧ (resume s).rbuf = s.rbuf ∧ (resume s).plen = s.plen ∧
        (resume s).txn = .closed ∧ (resume s).trace = s.trace ++ readEvents bytes ++ [.busEnd]
    (s.reads = st :: more → st.getLsbD 0 = false → fails [st] .rspStatusNotReady) ∧
    (st.getLsbD 0 = true →
      (s.reads = st :: pre :: more → pre ≠ 0x00 → fails [st, pre] .badPreamble) ∧
      (s.reads = st :: 0x00 :: sc1 :: more → sc1 ≠ 0x00 → fails [st, 0x00, sc1] .badStartCode1) ∧
      (s.reads = st :: 0x00 :: 0x00 :: sc2 :: more → sc2 ≠ 0xFF → fails [st, 0x00, 0x00, sc2] .badStartCode2) ∧
      (s.reads = st :: 0x00 :: 0x00 :: 0xFF :: len :: lcs :: more → (len.toNat + lcs.toNat) % 256 ≠ 0 →
        fails [st, 0x00, 0x00, 0xFF, len, lcs] .badLcs) ∧
      ((len.toNat + lcs.toNat) % 256 = 0 →
        (s.reads = st :: 0x00 :: 0x00 :: 0xFF :: len :: lcs :: tfi :: more → tfi ≠ 0xD5 →
          fails [st, 0x00, 0x00, 0xFF, len, lcs, tfi] .badTfi) ∧
        (s.reads = st :: 0x00 :: 0x00 :: 0xFF :: len :: lcs :: 0xD5 :: echo :: more →
          (echo.toNat ≠ s.pendcmd.toNat + 1 → fails [st, 0x00, 0x00, 0xFF, len, lcs, 0xD5, echo] .badEcho) ∧
          (echo.toNat = s.pendcmd.toNat + 1 → len.toNat < 2 →
            fails [st, 0x00, 0x00, 0xFF, len, lcs, 0xD5, echo] .lenTooShort))))

/-- R120 step 16, R161: a wrong `DCS` is `InvalidFrame` with its own cause; it is logged, the postamble is not read,
and the transaction is closed. A right one is followed by exactly one more read, of any byte. -/
def Obligations.WrongDcsIsRejected : Prop :=
  ∀ (s : State) (dcs : Byte) (more : List Byte), s.ph = .rDcs → s.reads = dcs :: more →
    ((s.sum.toNat + dcs.toNat) % 256 ≠ 0 →
      EndedWith .invalidFrame .badDcs (resume s) ∧ (resume s).plen = s.plen ∧ (resume s).rbuf = s.rbuf ∧
        (resume s).log = s.log ++ [.checksumFailure] ∧ (resume s).txn = .closed ∧
        (resume s).trace = s.trace ++ [.busRead dcs, .busEnd]) ∧
    (∀ (post : Byte) (later : List Byte), (s.sum.toNat + dcs.toNat) % 256 = 0 → more = post :: later →
      EndedWith .ok .none (resume s) ∧ (resume s).plen = s.plen ∧ (resume s).rbuf = s.rbuf ∧
        (resume s).txn = .closed ∧ (resume s).trace = s.trace ++ [.busRead dcs, .busRead post, .busEnd])

/-- R122: with no command recorded READ_RESPONSE aborts before any wait and any bus event; and no READ_RESPONSE,
whatever its outcome, consumes the record. -/
def Obligations.ReadResponseNeedsARecord : Prop :=
  ∀ s : State, s.busy = false →
    (s.pendv = false → ∃ t, exec .readResponse s = .next t ∧ EndedWith .invalidFrame .noPending t ∧ t.plen = 0 ∧
      t.trace = s.trace ∧ t.rbuf = s.rbuf) ∧
    ∃ t, exec .readResponse s = .next t ∧ t.pendcmd = s.pendcmd ∧ t.pendv = s.pendv

/-- R121, the row of the wait: a readiness signal that never asserts within `TMO` gives `Timeout` and no bus read. -/
def Obligations.ReadResponseTimeoutReadsNothing : Prop :=
  ∀ (s : State) (clock rest : List Nat) (signal rest' : List Bool), s.busy = false → s.pendv = true →
    s.nows = clock ++ rest → s.readies = signal ++ rest' → WaitTakes s.cfg s.tmo clock signal false →
    ∃ t, exec .readResponse s = .next t ∧ EndedWith .timeout .rspWaitTimeout t ∧ t.plen = 0 ∧ t.rbuf = s.rbuf ∧
      t.reads = s.reads ∧ t.trace = s.trace ++ waitEvents s.cfg clock signal

/-- R123: a payload longer than `MAXL` is `NoSpace`: eight bytes are read, nothing is stored, the transaction is closed
with `BusEnd`, and `PLEN` holds the length that did not fit. And no READ_RESPONSE ever stores at an index of `MAXL` or
above. -/
def Obligations.CapacityIsNeverExceeded : Prop :=
  (∀ (s : State) (st len lcs echo : Byte) (more : List Byte), s.ph = .rStatus →
    s.reads = st :: 0x00 :: 0x00 :: 0xFF :: len :: lcs :: 0xD5 :: echo :: more → st.getLsbD 0 = true →
    (len.toNat + lcs.toNat) % 256 = 0 → echo.toNat = s.pendcmd.toNat + 1 → s.maxl.toNat + 2 < len.toNat →
    EndedWith .noSpace .noSpace (resume s) ∧ (resume s).rbuf = s.rbuf ∧ (resume s).plen.toNat = len.toNat - 2 ∧
      (resume s).txn = .closed ∧
      (resume s).trace = s.trace ++ readEvents [st, 0x00, 0x00, 0xFF, len, lcs, 0xD5, echo] ++ [.busEnd]) ∧
  (∀ s t : State, s.busy = false → exec .readResponse s = .next t →
    ∀ i, s.maxl.toNat ≤ i → Memory.read t.rbuf i = Memory.read s.rbuf i)

/-- R124: `RBUF` after the operation. On `Ok` and on `BAD_DCS` the first `PLEN` bytes are the received payload bytes in
arrival order and no other byte has changed; on every other abort `RBUF` is unchanged. -/
def Obligations.RbufAfterReadResponse : Prop :=
  ∀ s t : State, s.busy = false → exec .readResponse s = .next t → t.busy = false →
    if t.cause = .none ∨ t.cause = .badDcs then
      ∀ i, Memory.read t.rbuf i =
        if i < t.plen.toNat then (s.reads.drop 8).getD i 0 else Memory.read s.rbuf i
    else t.rbuf = s.rbuf

/-- R71: the echo compare is made in nine bits, without wrap; so with `PENDCMD = 0xFF` every response is rejected. -/
def Obligations.CommandFFAcceptsNoResponse : Prop :=
  (∀ pend echo : Byte, echoOk pend echo = true ↔ echo.toNat = pend.toNat + 1) ∧
  ∀ s : State, s.busy = false → s.pendcmd = 0xFF →
    ∃ t, exec .readResponse s = .next t ∧ (t.busy = false → t.result ≠ .ok)

/-- The frame of READ_RESPONSE (R120): the latches, the pairing record, every byte of `HDR` and `BODY`, `RDYRES`,
`RSTN` and everything sent are as before; the bytes of `RBUF` from index `PLEN` up, `PLEN` being the length the
operation has computed, read as before. -/
def Obligations.ReadResponseFrame : Prop :=
  ∀ s t : State, s.busy = false → exec .readResponse s = .next t →
    KeepsLatches s t ∧ KeepsPairing s t ∧ KeepsCommandBuffers s t ∧ ResultAtEnd s t ∧ t.rdyres = s.rdyres ∧
      t.rstn = s.rstn ∧ t.committed = s.committed ∧ t.accepts = s.accepts ∧ t.inputs = s.inputs ∧ t.rdata = s.rdata ∧
      ∀ i, t.plen.toNat ≤ i → Memory.read t.rbuf i = Memory.read s.rbuf i

/-! ## The wire formats -/

/-- R65: a status byte with bit 0 set that arrives as byte 0 of a read transaction is taken: by READ_RESPONSE into `ST`,
by ACK_CHECK into `ACKBUF[0]`; nothing else moves. That it arrives as an instruction is the model's form (entry 10). -/
def Obligations.StatusByteCompletes : Prop :=
  ∀ (s : State) (h : BitVec 7), s.reads = [] →
    (s.ph = .rStatus → exec (.statusByte h) s =
      .next { s with
        st := h ++ 1#1
        ph := .rPre
        txn := .reading
        trace := s.trace ++ [.busRead (h ++ 1#1)] }) ∧
    (s.ph = .aRead → s.idx = 0 → exec (.statusByte h) s =
      .next { s with
        ackbuf := s.ackbuf.set 0 (h ++ 1#1)
        idx := 1
        txn := .reading
        trace := s.trace ++ [.busRead (h ++ 1#1)] })

/-- R64, R110: the ACK frame that arrives after the status byte ends WRITE_COMMAND: with `Ok`, or with the status cause
when the status bit was clear. That it arrives as an instruction is the model's form (entry 10). -/
def Obligations.AckFrameCompletes : Prop :=
  ∀ s : State, s.ph = .aRead → s.idx = 1 → s.reads = [] →
    ∃ t, exec .ackFrame s = .next t ∧
      EndedWith (if s.ackbuf[0].getLsbD 0 then .ok else .invalidAck)
        (if s.ackbuf[0].getLsbD 0 then .none else .ackStatusNotReady) t ∧
      t.txn = .closed ∧ t.reads = [] ∧ t.pendcmd = s.pendcmd ∧ t.pendv = s.pendv ∧ t.rbuf = s.rbuf ∧
      t.trace = s.trace ++ readEvents ackRom ++ [.busEnd]

/-- R63, R120: a response frame with valid checksums, the expected echo and a payload that fits, arriving after the
status byte, ends READ_RESPONSE with `Ok` and its payload in `RBUF`. That it arrives as an instruction is the model's
form (entry 10). -/
def Obligations.RspFrameCompletes : Prop :=
  ∀ (s : State) (payload : List Byte) (post : Byte), s.ph = .rPre → s.reads = [] → s.pendcmd ≠ 0xFF →
    payload.length ≤ 253 → payload.length ≤ s.maxl.toNat →
    let len := BitVec.ofNat 8 (payload.length + 2)
    let dcs := dcsGen (sumBytes 0xD5 ((s.pendcmd + 1) :: payload))
    ∃ t, exec (.rspFrame len (lcsGen len) ((s.pendcmd + 1) :: payload ++ [dcs, post])) s = .next t ∧
      EndedWith .ok .none t ∧ t.plen.toNat = payload.length ∧ t.txn = .closed ∧ t.reads = [] ∧
      (∀ i, Memory.read t.rbuf i = if i < payload.length then payload.getD i 0 else Memory.read s.rbuf i) ∧
      t.trace = s.trace ++
        readEvents (wireBytes (.rspFrame len (lcsGen len) ((s.pendcmd + 1) :: payload ++ [dcs, post]))) ++ [.busEnd]

/-- R62, R100: the command frame that the engine is about to emit is what `wireBytes` of a `CMD_FRAME` says; when the
bus takes it, all its bytes are written and committed as one frame, and the ACK wait begins. That the bus takes it as
one instruction is the model's form (entry 11). -/
def Obligations.CmdFrameCompletes : Prop :=
  ∀ s : State, s.ph = .wHead → s.idx = 0 → s.hlen ≠ 0 → tooLong s.cfg s.hlen s.blen = false →
    s.lenr.toNat = frameLen s.hlen s.blen → s.accepts = [] → s.staged = [] → s.nows = [] →
    ∃ rest : List Byte, wireBytes (.cmdFrame s.lenr (lcsGen s.lenr) rest) = commandFrame s ∧
      Instr.sound s.cfg.maxlen s.cfg.postamble (.cmdFrame s.lenr (lcsGen s.lenr) rest) = true ∧
      ∃ t, exec (.cmdFrame s.lenr (lcsGen s.lenr) rest) s = .next t ∧ t.ph = .aWait ∧ t.busy = s.busy ∧
        t.committed = s.committed ++ [commandFrame s] ∧ t.txn = .closed ∧ t.accepts = [] ∧ t.reads = s.reads ∧
        t.trace = s.trace ++ writeEvents (commandFrame s) ++ [.busEnd]

/-- While the engine is idle, bytes on the bus are held by the chip until the next read transaction (R29 b); nothing
else changes. The model's choice for when they are offered: entry 10. -/
def Obligations.IdleEngineIgnoresTheBus : Prop :=
  ∀ (i : Instr) (s : State), s.ph = .idle → (∀ c, encode i ≠ .opsel c) →
    exec i s = .next { s with reads := s.reads ++ wireBytes i }

/-- R74: frames of the wrong kind are judged by the positional checks: an ACK frame given to READ_RESPONSE after its
status byte fails the `LCS` check, a command frame read back fails the `TFI` check when its `LCS` is right, and neither
touches `RBUF`. -/
def Obligations.FramesOfTheWrongKindAreRejected : Prop :=
  ∀ s : State, s.ph = .rPre → s.reads = [] →
    (∃ t, exec .ackFrame s = .next t ∧ EndedWith .invalidFrame .badLcs t ∧ t.rbuf = s.rbuf) ∧
    ∀ (len : Byte) (rest : List Byte), ∃ t, exec (.cmdFrame len (lcsGen len) rest) s = .next t ∧
      EndedWith .invalidFrame .badTfi t ∧ t.rbuf = s.rbuf

/-- The frame of the four wire formats when the engine is at rest: they only carry an operation in progress on. The
latches, the pairing record, `HDR`, `BODY`, `RDYRES` and `RSTN` are as before; `RBUF` changes only in READ_RESPONSE, and
there only below `PLEN` and, once payload bytes are being stored, at `IDX` and above. -/
def Obligations.WireFormatFrame : Prop :=
  ∀ (i : Instr) (s t : State), (∀ c, encode i ≠ .opsel c) → s.Inv → s.atRest → exec i s = .next t →
    KeepsLatches s t ∧ KeepsPairing s t ∧ KeepsCommandBuffers s t ∧ ResultAtEnd s t ∧ t.opr = s.opr ∧
      t.rdyres = s.rdyres ∧ t.rstn = s.rstn ∧ t.inputs = s.inputs ∧ t.rdata = s.rdata ∧
      (∀ n, t.plen.toNat ≤ n → Memory.read t.rbuf n = Memory.read s.rbuf n) ∧
      (s.ph.readsResponse = false → t.rbuf = s.rbuf ∧ t.plen = s.plen) ∧
      (s.ph = .rData → ∀ n, n < s.idx.toNat → Memory.read t.rbuf n = Memory.read s.rbuf n)

/-! ## Start, end and aborts -/

/-- R150, R151: the numbers of the result and cause codes, and the result that goes with each cause. -/
def Obligations.ResultAndCauseCodes : Prop :=
  [ResultCode.ok, .timeout, .invalidFrame, .invalidAck, .noSpace].map (fun r => r.code.toNat) = [0, 1, 2, 3, 4] ∧
  [Cause.none, .hdrEmpty, .tooLong, .writeRejected, .ackWaitTimeout, .ackStatusNotReady, .ackPatternMismatch,
    .noPending, .rspWaitTimeout, .rspStatusNotReady, .badPreamble, .badStartCode1, .badStartCode2, .badLcs, .badTfi,
    .badEcho, .lenTooShort, .noSpace, .badDcs, .illegalOp].map (fun k => (k.code.toNat, k.result.code.toNat)) =
    [(0, 0), (1, 2), (2, 2), (3, 2), (4, 1), (5, 3), (6, 3), (7, 2), (8, 1), (9, 2), (10, 2), (11, 2), (12, 2), (13, 2),
      (14, 2), (15, 2), (16, 2), (17, 4), (18, 2), (19, 2)] ∧
  ∀ k : Cause, k.code.toNat ≤ 19

/-- R160, R161, R162: `Abort` issues no bus event; `AbortTxn` issues exactly one `BusEnd()`, in phase X_CLOSE, and then
ends the operation. Both keep the pairing record, `RDYRES`, `RSTN`, `PLEN`, the operand latches and the buffers as they
were when the check failed. -/
def Obligations.AbortsAreExact : Prop :=
  ∀ (s : State) (k : Cause),
    let keeps := fun (t : State) => EndedWith k.result k t ∧ t.pendcmd = s.pendcmd ∧ t.pendv = s.pendv ∧
      t.rdyres = s.rdyres ∧ t.rstn = s.rstn ∧ t.plen = s.plen ∧ t.opr = s.opr ∧ KeepsLatches s t ∧ t.hdr = s.hdr ∧
      t.body = s.body ∧ t.rbuf = s.rbuf ∧ t.accepts = s.accepts
    (keeps (abort k s) ∧ (abort k s).trace = s.trace ∧ (abort k s).txn = s.txn ∧ (abort k s).reads = s.reads) ∧
    (abortTxn k s).ph = .xClose ∧ (abortTxn k s).trace = s.trace ∧
    ∃ t, tick (abortTxn k s) = some t ∧ keeps t ∧ t.trace = s.trace ++ [.busEnd] ∧ t.txn = .closed

/-- R73: a reserved code completes at once with `InvalidFrame`/`ILLEGAL_OP`: `OPR` holds it, `PLEN` is 0, and nothing
else changes, on the bus or in the engine. -/
def Obligations.ReservedCodesAreRejected : Prop :=
  ∀ s : State, s.busy = false →
    exec .reserved5 s = .next { s with opr := 5, plen := 0, result := .invalidFrame, cause := .illegalOp } ∧
    exec .reserved6 s = .next { s with opr := 6, plen := 0, result := .invalidFrame, cause := .illegalOp } ∧
    exec .reserved7 s = .next { s with opr := 7, plen := 0, result := .invalidFrame, cause := .illegalOp }

/-- R184: while `BUSY = 1` a write to `OPR` or to an operand latch starts nothing, queues nothing and changes no
register. -/
def Obligations.WritesWhileBusyAreIgnored : Prop :=
  ∀ (s : State) (r : HostReg) (v : Nat) (rest : List Input), s.busy = true → s.inputs = .writeReg r v :: rest →
    step s = .next { s with inputs := rest }

/-- R35: every host operation answers a next state; it leaves its code in `OPR`; `RESULT` and `CAUSE` keep the values of
the previous operation until it ends, and then go together, with the engine back in IDLE. -/
def Obligations.OldResultStaysUntilTheEnd : Prop :=
  ∀ (c : OpCode) (s : State), s.busy = false → s.ph = .idle → ∃ t, exec (decodeOpCode c) s = .next t ∧ t.opr = c ∧
    (t.busy = true → t.ph ≠ .idle ∧ t.result = s.result ∧ t.cause = s.cause) ∧
    (t.busy = false → t.ph = .idle ∧ t.result = t.cause.result)

/-! ## The host's interface and reset -/

/-- R30: the register table. A host read returns the value of the table and changes nothing else; while idle it is the
register's value, `STATUS` shows `PENDV` and `RDYRES`, and `BUSY` and bits 7 to 3 read 0. While idle a host write sets the
latch's own bits and changes nothing else; a write to a read-only register changes nothing. While busy, `STATUS` bit 0
reads 1 and bits 7 to 3 read 0, the latches read back as they are, and every other value a read returns is free within
the register's width (the model's reading of 'unspecified': entry 5). `rdata` and the count of free values `fresh` are
the model's own (entry 20). -/
def Obligations.HostRegisterTable : Prop :=
  (∀ (s : State) (r : HostReg) (rest : List Input), s.inputs = .readReg r :: rest →
    step s = .next { s with inputs := rest, rdata := readReg r s, fresh := s.fresh + 1 }) ∧
  (∀ (s : State) (v : Nat) (rest : List Input), s.busy = false →
    (s.inputs = .writeReg .hlen v :: rest → step s = .next { s with inputs := rest, hlen := BitVec.ofNat 8 v }) ∧
    (s.inputs = .writeReg .blen v :: rest → step s = .next { s with inputs := rest, blen := BitVec.ofNat 8 v }) ∧
    (s.inputs = .writeReg .maxl v :: rest → step s = .next { s with inputs := rest, maxl := BitVec.ofNat 8 v }) ∧
    (s.inputs = .writeReg .tmo v :: rest → step s = .next { s with inputs := rest, tmo := v % 2 ^ s.cfg.clkw }) ∧
    ∀ r, r = .status ∨ r = .result ∨ r = .cause ∨ r = .plen →
      s.inputs = .writeReg r v :: rest → step s = .next { s with inputs := rest }) ∧
  (∀ s : State, readReg .opr s = s.opr.toNat ∧ readReg .hlen s = s.hlen.toNat ∧ readReg .blen s = s.blen.toNat ∧
    readReg .maxl s = s.maxl.toNat ∧ readReg .tmo s = s.tmo ∧
    (s.busy = false → readReg .status s = (if s.pendv then 2 else 0) + (if s.rdyres then 4 else 0) ∧
      readReg .result s = s.result.code.toNat ∧ readReg .cause s = s.cause.code.toNat ∧
      readReg .plen s = s.plen.toNat) ∧
    (s.busy = true → readReg .status s % 2 = 1 ∧ readReg .status s < 8 ∧ readReg .result s < 8 ∧
      readReg .cause s < 32 ∧ readReg .plen s < 256)) ∧
  [HostReg.opr, .hlen, .blen, .maxl, .tmo, .status, .result, .cause, .plen].map HostReg.number =
    [0, 1, 2, 3, 4, 5, 6, 7, 8]

/-- R33: the registers after reset that the spec gives a value. -/
def Obligations.ResetValues : Prop :=
  State.reset.ph = .idle ∧ State.reset.busy = false ∧ State.reset.pendv = false ∧ State.reset.rdyres = false ∧
    State.reset.opr = 0 ∧ State.reset.hlen = 0 ∧ State.reset.blen = 0 ∧ State.reset.maxl = 0 ∧ State.reset.tmo = 0 ∧
    State.reset.result = .ok ∧ State.reset.cause = .none ∧ State.reset.plen = 0 ∧ State.reset.rstn = true

/-- R180: the hardware reset takes effect at any time, whatever the engine was doing: the registers of R33 have their
reset values; the operation in progress is abandoned where it stands, without a `BusEnd`, a result or any other event; the
constants and the buffers are as the engine had left them. It can fall where the engine stands, and after any number of
visits of the run that the next input sets off: that run is the one the step of the input makes, visit by visit. That the
bus and its open transaction stay as they were is the model's choice (entry 17), and so is the form of the input (entry
22). -/
def Obligations.HardwareResetAbandonsTheOperation : Prop :=
  (∀ (s : State) (rest : List Input), s.inputs = .hwReset :: rest →
    ∃ t, step s = .next t ∧ AfterReset { s with inputs := rest } t) ∧
  (∀ (s : State) (n : Nat) (rest : List Input), s.inputs = .hwResetWithin n :: rest →
    ∃ t, step s = .next t ∧ AfterReset (runVisits n (landNext { s with inputs := rest })) t) ∧
  (∀ (s : State) (a : Input) (rest : List Input), s.inputs = a :: rest → SetsGoing s a →
    step s = .next (resume (landNext s)) ∧ (landNext s).inputs = rest ∧ (landNext s).trace = s.trace) ∧
  (∀ s : State, s.inputs = [] → step s = .next (resume (landNext s)) ∧ landNext s = s)

/-- R40 to R42, R59, R185: while idle the host's bytes stand at index 0 and up of the buffer it names, every other byte
of the three buffers reads as before, and nothing else changes; a read of `RBUF` returns the byte and changes nothing.
While `BUSY = 1` the outcome is unspecified and the model stops by name (entry 7); an index beyond 255 does not exist, and
the model stops by name there too (entry 9). Both stops, and the field `rdata` (entry 20), are the model's choices. -/
def Obligations.BuffersAreTheHostsWhileIdle : Prop :=
  (∀ (s : State) (b : Buffer) (bs : List Byte) (rest : List Input), s.inputs = .put b bs :: rest →
    (s.busy = true → step s = .refused .bufferTouchedWhileBusy) ∧
    (s.busy = false → 256 < bs.length → step s = .fault .bufferIndex) ∧
    (s.busy = false → bs.length ≤ 256 → ∃ t, step s = .next t ∧
      (∀ i, Memory.read t.hdr i = if b = .hdr ∧ i < bs.length then bs.getD i 0 else Memory.read s.hdr i) ∧
      (∀ i, Memory.read t.body i = if b = .body ∧ i < bs.length then bs.getD i 0 else Memory.read s.body i) ∧
      (∀ i, Memory.read t.rbuf i = if b = .rbuf ∧ i < bs.length then bs.getD i 0 else Memory.read s.rbuf i) ∧
      t = { s with inputs := rest, hdr := t.hdr, body := t.body, rbuf := t.rbuf })) ∧
  (∀ (s : State) (i : Nat) (rest : List Input), s.inputs = .peek i :: rest →
    (s.busy = true → step s = .refused .bufferTouchedWhileBusy) ∧
    (s.busy = false → 256 ≤ i → step s = .fault .bufferIndex) ∧
    (s.busy = false → i < 256 → step s = .next { s with inputs := rest, rdata := (Memory.read s.rbuf i).toNat }))

/-- R142, R189: a wait that gets no sample never ends: without an input the engine stays as it is, and no register
access of the host changes the phase it waits in; only the hardware reset does. -/
def Obligations.AWaitCannotBeCancelled : Prop :=
  ∀ s : State, s.busy = true → s.atRest →
    (s.inputs = [] → step s = .next s) ∧
    ∀ (a : Input) (rest : List Input), s.inputs = a :: rest →
      (∃ r v, a = .writeReg r v) ∨ (∃ r, a = .readReg r) →
      ∃ t, step s = .next t ∧ t.busy = true ∧ t.ph = s.ph ∧ t.sub = s.sub ∧ t.trace = s.trace ∧ t.atRest

/-! ## Rules of the whole machine -/

/-- R20, R34, R151, R155: every visit of a phase moves along an edge of the table, and no other edge exists; it causes
at most one external event; and when it ends the operation, the cause is one of its phase, in X_CLOSE the cause of the
check that failed. That B_INIT, R_DATA and B_SETTLE, which hold two statements, take two visits is the model's choice
(entry 20). -/
def Obligations.VisitsFollowTheTable : Prop :=
  ∀ s t : State, tick s = some t →
    t.ph ∈ s.ph.successors ∧
    (∃ ev : List Event, t.trace = s.trace ++ ev ∧ ev.length ≤ 1) ∧
    (t.ph = .idle →
      EndedWith t.cause.result t.cause t ∧ (t.cause ∈ s.ph.causes ∨ (s.ph = .xClose ∧ t.cause = s.xcause)))

/-- R44: which events each operation can cause: BEGIN never opens a transaction, WAKE's is empty, only WRITE_COMMAND
writes, only WRITE_COMMAND (in ACK_CHECK) and READ_RESPONSE read, WAIT_READY only samples. -/
def Obligations.EventsOfTheOperations : Prop :=
  ∀ (c : OpCode) (s t : State), s.busy = false → exec (decodeOpCode c) s = .next t →
    ∃ ev : List Event, t.trace = s.trace ++ ev ∧ ∀ e ∈ ev, mayCause c e = true

/-- R28: no operation, no input and no reset changes the configuration constants. -/
def Obligations.ConfigurationNeverChanges : Prop :=
  ∀ s t : State, step s = .next t → t.cfg = s.cfg

/-- R11, R12, R22, R27: an instruction run by an engine at rest writes the pairing record only if it is WRITE_COMMAND
or BEGIN, `RDYRES` only if it is WAIT_READY or BEGIN, and `RSTN` only if it is BEGIN. -/
def Obligations.OnlyTheirOperationsWriteTheFlags : Prop :=
  ∀ (i : Instr) (s t : State), s.Inv → s.atRest → exec i s = .next t →
    (i ≠ .writeCommand → i ≠ .begin → t.pendcmd = s.pendcmd ∧ t.pendv = s.pendv) ∧
    (i ≠ .waitReady → i ≠ .begin → t.rdyres = s.rdyres) ∧ (i ≠ .begin → t.rstn = s.rstn)

/-- R12, R13: the values of the working registers when an operation starts, and that of `PENDCMD` while `PENDV = 0`, do
not matter to what `exec` gives with the answers placed beforehand: two idle states that agree on everything else that
is visible go to states that agree again. Answers that come later: `AnswersMayComeLater`. -/
def Obligations.WorkingRegistersNeverMatter : Prop :=
  ∀ (i : Instr) (s s' t : State), s.busy = false → s.ph = .idle → Alike s s' → exec i s = .next t →
    ∃ t', exec i s' = .next t' ∧ Alike t t'

/-- The registers, the buffers and the phase keep the invariant in every step, from every state that has it (R12, R13,
R20, R26, R42, R56, R151). -/
def Obligations.StepKeepsInvariant : Prop :=
  ∀ s t : State, s.Inv → step s = .next t → t.Inv

/-- R47, R62, R86: only whole command frames go out on the bus, and what is staged is always the first part of one, in
every step, from every state that has the invariants. -/
def Obligations.OnlyCommandFramesGoOut : Prop :=
  ∀ s t : State, s.Inv → s.BuilderInv → step s = .next t → t.BuilderInv

/-- Every step of an engine at rest ends at rest again: idle, or waiting for an answer that has not come; no operation
runs away. That one step runs so far is the model's choice (entry 1), which R20 allows and no rule asks for; that only a
missing answer holds a running engine up is R57 and R142. -/
def Obligations.StepComesToRest : Prop :=
  ∀ s t : State, s.atRest → step s = .next t → t.atRest

/-- The invariants hold at reset, and the engine is at rest. The values at reset of the registers that R33 leaves
unspecified, and of the collaborators' fields, are the model's (entries 4 and 19). -/
def Obligations.ResetMeetsTheInvariants : Prop :=
  State.reset.Inv ∧ State.reset.BuilderInv ∧ State.reset.atRest

/-- R77: each of the five lines stands for the host's buffer contents and register writes: run from an idle engine, they
start the operation of the line with its operands, `RSPTMO` where a READ_RESPONSE line omits `tmo`; the DATA of a
WRITE_COMMAND line is its header followed by its body, both of a length that `HLEN` and `BLEN` can hold. -/
def Obligations.NotationStandsForItsWrites : Prop :=
  ∀ s : State, s.busy = false → s.ph = .idle →
    core.run 1 { s with inputs := Line.inputs s.cfg .begin } = exec .begin { s with inputs := [] } ∧
    core.run 1 { s with inputs := Line.inputs s.cfg .wake } = exec .wake { s with inputs := [] } ∧
    (∀ hdr body : List Byte, hdr.length ≤ 255 → body.length ≤ 255 →
      ∃ u : State, core.run 5 { s with inputs := Line.inputs s.cfg (.writeCommand hdr body) } = exec .writeCommand u ∧
        commandData u = hdr ++ body ∧ u.hlen.toNat = hdr.length ∧ u.blen.toNat = body.length ∧
        (∀ i, Memory.read u.hdr i = if i < hdr.length then hdr.getD i 0 else Memory.read s.hdr i) ∧
        (∀ i, Memory.read u.body i = if i < body.length then body.getD i 0 else Memory.read s.body i) ∧
        u = { s with inputs := [], hdr := u.hdr, body := u.body, hlen := u.hlen, blen := u.blen }) ∧
    (∀ (max : Nat) (tmo : Option Nat),
      core.run 3 { s with inputs := Line.inputs s.cfg (.readResponse max tmo) } =
        exec .readResponse
          { s with maxl := BitVec.ofNat 8 max, tmo := tmo.getD s.cfg.rsptmo % 2 ^ s.cfg.clkw, inputs := [] }) ∧
    ∀ tmo : Nat, core.run 2 { s with inputs := Line.inputs s.cfg (.waitReady tmo) } =
      exec .waitReady { s with tmo := tmo % 2 ^ s.cfg.clkw, inputs := [] }

/-- An answer that lands on a waiting engine gives the state that `exec` gives with that answer appended beforehand to
those the collaborators had, so every statement about `exec` with its answers placed beforehand holds of answers that
come one by one, in any order (R57, R142). The four answers: a clock sample, a readiness sample, the bus driver's answer
to a `BusWrite`, and bytes on the bus, raw or a whole wire format; a command frame that the engine is about to emit
stands for its accepted writes. That an operation waits in one step for its answers, and the queues that hold them, are
the model's choices (entries 1, 2, 10, 11, 14). -/
def Obligations.AnswersMayComeLater : Prop :=
  ∀ (c : OpCode) (s t : State) (rest : List Input), s.busy = false → exec (decodeOpCode c) s = .next t → t.busy = true →
    (∀ v, step { t with inputs := .now v :: rest } =
      exec (decodeOpCode c) { s with nows := s.nows ++ [v], inputs := rest }) ∧
    (∀ v, step { t with inputs := .ready v :: rest } =
      exec (decodeOpCode c) { s with readies := s.readies ++ [v], inputs := rest }) ∧
    (∀ v, step { t with inputs := .accept v :: rest } =
      exec (decodeOpCode c) { s with accepts := s.accepts ++ [v], inputs := rest }) ∧
    (∀ bs, aboutToEmit bs t = false → step { t with inputs := .wire bs :: rest } =
      exec (decodeOpCode c) { s with reads := s.reads ++ bs, inputs := rest }) ∧
    (∀ bs, aboutToEmit bs t = true → step { t with inputs := .wire bs :: rest } =
      exec (decodeOpCode c)
        { s with accepts := s.accepts ++ List.replicate bs.length true, inputs := rest })
end

