-- ==== Sys2Proof/Laws/State.lean ====
section
/-! SUPPORT. One lemma per field and shared operation on the state: what the operation leaves in the field. -/

namespace Sys2Proof.Machine

/-! ## `record` -/

@[simp] theorem record_cfg (e : Event) (s : State) : (record e s).cfg = s.cfg := rfl
@[simp] theorem record_pendcmd (e : Event) (s : State) : (record e s).pendcmd = s.pendcmd := rfl
@[simp] theorem record_pendv (e : Event) (s : State) : (record e s).pendv = s.pendv := rfl
@[simp] theorem record_sum (e : Event) (s : State) : (record e s).sum = s.sum := rfl
@[simp] theorem record_lenr (e : Event) (s : State) : (record e s).lenr = s.lenr := rfl
@[simp] theorem record_echo (e : Event) (s : State) : (record e s).echo = s.echo := rfl
@[simp] theorem record_st (e : Event) (s : State) : (record e s).st = s.st := rfl
@[simp] theorem record_idx (e : Event) (s : State) : (record e s).idx = s.idx := rfl
@[simp] theorem record_ackbuf (e : Event) (s : State) : (record e s).ackbuf = s.ackbuf := rfl
@[simp] theorem record_t0 (e : Event) (s : State) : (record e s).t0 = s.t0 := rfl
@[simp] theorem record_tmor (e : Event) (s : State) : (record e s).tmor = s.tmor := rfl
@[simp] theorem record_ph (e : Event) (s : State) : (record e s).ph = s.ph := rfl
@[simp] theorem record_sub (e : Event) (s : State) : (record e s).sub = s.sub := rfl
@[simp] theorem record_xcause (e : Event) (s : State) : (record e s).xcause = s.xcause := rfl
@[simp] theorem record_busy (e : Event) (s : State) : (record e s).busy = s.busy := rfl
@[simp] theorem record_opr (e : Event) (s : State) : (record e s).opr = s.opr := rfl
@[simp] theorem record_hlen (e : Event) (s : State) : (record e s).hlen = s.hlen := rfl
@[simp] theorem record_blen (e : Event) (s : State) : (record e s).blen = s.blen := rfl
@[simp] theorem record_maxl (e : Event) (s : State) : (record e s).maxl = s.maxl := rfl
@[simp] theorem record_tmo (e : Event) (s : State) : (record e s).tmo = s.tmo := rfl
@[simp] theorem record_result (e : Event) (s : State) : (record e s).result = s.result := rfl
@[simp] theorem record_cause (e : Event) (s : State) : (record e s).cause = s.cause := rfl
@[simp] theorem record_plen (e : Event) (s : State) : (record e s).plen = s.plen := rfl
@[simp] theorem record_rdyres (e : Event) (s : State) : (record e s).rdyres = s.rdyres := rfl
@[simp] theorem record_rstn (e : Event) (s : State) : (record e s).rstn = s.rstn := rfl
@[simp] theorem record_hdr (e : Event) (s : State) : (record e s).hdr = s.hdr := rfl
@[simp] theorem record_body (e : Event) (s : State) : (record e s).body = s.body := rfl
@[simp] theorem record_rbuf (e : Event) (s : State) : (record e s).rbuf = s.rbuf := rfl
@[simp] theorem record_txn (e : Event) (s : State) : (record e s).txn = s.txn := rfl
@[simp] theorem record_staged (e : Event) (s : State) : (record e s).staged = s.staged := rfl
@[simp] theorem record_committed (e : Event) (s : State) : (record e s).committed = s.committed := rfl
@[simp] theorem record_accepts (e : Event) (s : State) : (record e s).accepts = s.accepts := rfl
@[simp] theorem record_reads (e : Event) (s : State) : (record e s).reads = s.reads := rfl
@[simp] theorem record_readies (e : Event) (s : State) : (record e s).readies = s.readies := rfl
@[simp] theorem record_nows (e : Event) (s : State) : (record e s).nows = s.nows := rfl
@[simp] theorem record_inputs (e : Event) (s : State) : (record e s).inputs = s.inputs := rfl
@[simp] theorem record_rdata (e : Event) (s : State) : (record e s).rdata = s.rdata := rfl
@[simp] theorem record_rbyte (e : Event) (s : State) : (record e s).rbyte = s.rbyte := rfl
@[simp] theorem record_trace (e : Event) (s : State) : (record e s).trace = s.trace ++ [e] := rfl
@[simp] theorem record_log (e : Event) (s : State) : (record e s).log = s.log := rfl
@[simp] theorem record_fresh (e : Event) (s : State) : (record e s).fresh = s.fresh := rfl

/-! ## `busInit` -/

@[simp] theorem busInit_cfg (s : State) : (busInit s).cfg = s.cfg := rfl
@[simp] theorem busInit_pendcmd (s : State) : (busInit s).pendcmd = s.pendcmd := rfl
@[simp] theorem busInit_pendv (s : State) : (busInit s).pendv = s.pendv := rfl
@[simp] theorem busInit_sum (s : State) : (busInit s).sum = s.sum := rfl
@[simp] theorem busInit_lenr (s : State) : (busInit s).lenr = s.lenr := rfl
@[simp] theorem busInit_echo (s : State) : (busInit s).echo = s.echo := rfl
@[simp] theorem busInit_st (s : State) : (busInit s).st = s.st := rfl
@[simp] theorem busInit_idx (s : State) : (busInit s).idx = s.idx := rfl
@[simp] theorem busInit_ackbuf (s : State) : (busInit s).ackbuf = s.ackbuf := rfl
@[simp] theorem busInit_t0 (s : State) : (busInit s).t0 = s.t0 := rfl
@[simp] theorem busInit_tmor (s : State) : (busInit s).tmor = s.tmor := rfl
@[simp] theorem busInit_ph (s : State) : (busInit s).ph = s.ph := rfl
@[simp] theorem busInit_sub (s : State) : (busInit s).sub = s.sub := rfl
@[simp] theorem busInit_xcause (s : State) : (busInit s).xcause = s.xcause := rfl
@[simp] theorem busInit_busy (s : State) : (busInit s).busy = s.busy := rfl
@[simp] theorem busInit_opr (s : State) : (busInit s).opr = s.opr := rfl
@[simp] theorem busInit_hlen (s : State) : (busInit s).hlen = s.hlen := rfl
@[simp] theorem busInit_blen (s : State) : (busInit s).blen = s.blen := rfl
@[simp] theorem busInit_maxl (s : State) : (busInit s).maxl = s.maxl := rfl
@[simp] theorem busInit_tmo (s : State) : (busInit s).tmo = s.tmo := rfl
@[simp] theorem busInit_result (s : State) : (busInit s).result = s.result := rfl
@[simp] theorem busInit_cause (s : State) : (busInit s).cause = s.cause := rfl
@[simp] theorem busInit_plen (s : State) : (busInit s).plen = s.plen := rfl
@[simp] theorem busInit_rdyres (s : State) : (busInit s).rdyres = s.rdyres := rfl
@[simp] theorem busInit_rstn (s : State) : (busInit s).rstn = s.rstn := rfl
@[simp] theorem busInit_hdr (s : State) : (busInit s).hdr = s.hdr := rfl
@[simp] theorem busInit_body (s : State) : (busInit s).body = s.body := rfl
@[simp] theorem busInit_rbuf (s : State) : (busInit s).rbuf = s.rbuf := rfl
@[simp] theorem busInit_txn (s : State) : (busInit s).txn = s.txn := rfl
@[simp] theorem busInit_staged (s : State) : (busInit s).staged = s.staged := rfl
@[simp] theorem busInit_committed (s : State) : (busInit s).committed = s.committed := rfl
@[simp] theorem busInit_accepts (s : State) : (busInit s).accepts = s.accepts := rfl
@[simp] theorem busInit_reads (s : State) : (busInit s).reads = s.reads := rfl
@[simp] theorem busInit_readies (s : State) : (busInit s).readies = s.readies := rfl
@[simp] theorem busInit_nows (s : State) : (busInit s).nows = s.nows := rfl
@[simp] theorem busInit_inputs (s : State) : (busInit s).inputs = s.inputs := rfl
@[simp] theorem busInit_rdata (s : State) : (busInit s).rdata = s.rdata := rfl
@[simp] theorem busInit_rbyte (s : State) : (busInit s).rbyte = s.rbyte := rfl
@[simp] theorem busInit_trace (s : State) : (busInit s).trace = s.trace ++ [.busInit] := rfl
@[simp] theorem busInit_log (s : State) : (busInit s).log = s.log := rfl
@[simp] theorem busInit_fresh (s : State) : (busInit s).fresh = s.fresh := rfl

/-! ## `busBegin` -/

@[simp] theorem busBegin_cfg (s : State) : (busBegin s).cfg = s.cfg := rfl
@[simp] theorem busBegin_pendcmd (s : State) : (busBegin s).pendcmd = s.pendcmd := rfl
@[simp] theorem busBegin_pendv (s : State) : (busBegin s).pendv = s.pendv := rfl
@[simp] theorem busBegin_sum (s : State) : (busBegin s).sum = s.sum := rfl
@[simp] theorem busBegin_lenr (s : State) : (busBegin s).lenr = s.lenr := rfl
@[simp] theorem busBegin_echo (s : State) : (busBegin s).echo = s.echo := rfl
@[simp] theorem busBegin_st (s : State) : (busBegin s).st = s.st := rfl
@[simp] theorem busBegin_idx (s : State) : (busBegin s).idx = s.idx := rfl
@[simp] theorem busBegin_ackbuf (s : State) : (busBegin s).ackbuf = s.ackbuf := rfl
@[simp] theorem busBegin_t0 (s : State) : (busBegin s).t0 = s.t0 := rfl
@[simp] theorem busBegin_tmor (s : State) : (busBegin s).tmor = s.tmor := rfl
@[simp] theorem busBegin_ph (s : State) : (busBegin s).ph = s.ph := rfl
@[simp] theorem busBegin_sub (s : State) : (busBegin s).sub = s.sub := rfl
@[simp] theorem busBegin_xcause (s : State) : (busBegin s).xcause = s.xcause := rfl
@[simp] theorem busBegin_busy (s : State) : (busBegin s).busy = s.busy := rfl
@[simp] theorem busBegin_opr (s : State) : (busBegin s).opr = s.opr := rfl
@[simp] theorem busBegin_hlen (s : State) : (busBegin s).hlen = s.hlen := rfl
@[simp] theorem busBegin_blen (s : State) : (busBegin s).blen = s.blen := rfl
@[simp] theorem busBegin_maxl (s : State) : (busBegin s).maxl = s.maxl := rfl
@[simp] theorem busBegin_tmo (s : State) : (busBegin s).tmo = s.tmo := rfl
@[simp] theorem busBegin_result (s : State) : (busBegin s).result = s.result := rfl
@[simp] theorem busBegin_cause (s : State) : (busBegin s).cause = s.cause := rfl
@[simp] theorem busBegin_plen (s : State) : (busBegin s).plen = s.plen := rfl
@[simp] theorem busBegin_rdyres (s : State) : (busBegin s).rdyres = s.rdyres := rfl
@[simp] theorem busBegin_rstn (s : State) : (busBegin s).rstn = s.rstn := rfl
@[simp] theorem busBegin_hdr (s : State) : (busBegin s).hdr = s.hdr := rfl
@[simp] theorem busBegin_body (s : State) : (busBegin s).body = s.body := rfl
@[simp] theorem busBegin_rbuf (s : State) : (busBegin s).rbuf = s.rbuf := rfl
@[simp] theorem busBegin_txn (s : State) : (busBegin s).txn = .opened := rfl
@[simp] theorem busBegin_staged (s : State) : (busBegin s).staged = [] := rfl
@[simp] theorem busBegin_committed (s : State) : (busBegin s).committed = s.committed := rfl
@[simp] theorem busBegin_accepts (s : State) : (busBegin s).accepts = s.accepts := rfl
@[simp] theorem busBegin_reads (s : State) : (busBegin s).reads = s.reads := rfl
@[simp] theorem busBegin_readies (s : State) : (busBegin s).readies = s.readies := rfl
@[simp] theorem busBegin_nows (s : State) : (busBegin s).nows = s.nows := rfl
@[simp] theorem busBegin_inputs (s : State) : (busBegin s).inputs = s.inputs := rfl
@[simp] theorem busBegin_rdata (s : State) : (busBegin s).rdata = s.rdata := rfl
@[simp] theorem busBegin_rbyte (s : State) : (busBegin s).rbyte = s.rbyte := rfl
@[simp] theorem busBegin_trace (s : State) : (busBegin s).trace = s.trace ++ [.busBegin s.cfg.addr] := rfl
@[simp] theorem busBegin_log (s : State) : (busBegin s).log = s.log := rfl
@[simp] theorem busBegin_fresh (s : State) : (busBegin s).fresh = s.fresh := rfl

/-! ## `busEnd` -/

@[simp] theorem busEnd_cfg (s : State) : (busEnd s).cfg = s.cfg := rfl
@[simp] theorem busEnd_pendcmd (s : State) : (busEnd s).pendcmd = s.pendcmd := rfl
@[simp] theorem busEnd_pendv (s : State) : (busEnd s).pendv = s.pendv := rfl
@[simp] theorem busEnd_sum (s : State) : (busEnd s).sum = s.sum := rfl
@[simp] theorem busEnd_lenr (s : State) : (busEnd s).lenr = s.lenr := rfl
@[simp] theorem busEnd_echo (s : State) : (busEnd s).echo = s.echo := rfl
@[simp] theorem busEnd_st (s : State) : (busEnd s).st = s.st := rfl
@[simp] theorem busEnd_idx (s : State) : (busEnd s).idx = s.idx := rfl
@[simp] theorem busEnd_ackbuf (s : State) : (busEnd s).ackbuf = s.ackbuf := rfl
@[simp] theorem busEnd_t0 (s : State) : (busEnd s).t0 = s.t0 := rfl
@[simp] theorem busEnd_tmor (s : State) : (busEnd s).tmor = s.tmor := rfl
@[simp] theorem busEnd_ph (s : State) : (busEnd s).ph = s.ph := rfl
@[simp] theorem busEnd_sub (s : State) : (busEnd s).sub = s.sub := rfl
@[simp] theorem busEnd_xcause (s : State) : (busEnd s).xcause = s.xcause := rfl
@[simp] theorem busEnd_busy (s : State) : (busEnd s).busy = s.busy := rfl
@[simp] theorem busEnd_opr (s : State) : (busEnd s).opr = s.opr := rfl
@[simp] theorem busEnd_hlen (s : State) : (busEnd s).hlen = s.hlen := rfl
@[simp] theorem busEnd_blen (s : State) : (busEnd s).blen = s.blen := rfl
@[simp] theorem busEnd_maxl (s : State) : (busEnd s).maxl = s.maxl := rfl
@[simp] theorem busEnd_tmo (s : State) : (busEnd s).tmo = s.tmo := rfl
@[simp] theorem busEnd_result (s : State) : (busEnd s).result = s.result := rfl
@[simp] theorem busEnd_cause (s : State) : (busEnd s).cause = s.cause := rfl
@[simp] theorem busEnd_plen (s : State) : (busEnd s).plen = s.plen := rfl
@[simp] theorem busEnd_rdyres (s : State) : (busEnd s).rdyres = s.rdyres := rfl
@[simp] theorem busEnd_rstn (s : State) : (busEnd s).rstn = s.rstn := rfl
@[simp] theorem busEnd_hdr (s : State) : (busEnd s).hdr = s.hdr := rfl
@[simp] theorem busEnd_body (s : State) : (busEnd s).body = s.body := rfl
@[simp] theorem busEnd_rbuf (s : State) : (busEnd s).rbuf = s.rbuf := rfl
@[simp] theorem busEnd_txn (s : State) : (busEnd s).txn = .closed := rfl
@[simp] theorem busEnd_staged (s : State) : (busEnd s).staged = if s.txn = .writing then [] else s.staged := rfl
@[simp] theorem busEnd_committed (s : State) : (busEnd s).committed = if s.txn = .writing then s.committed ++ [s.staged] else s.committed := rfl
@[simp] theorem busEnd_accepts (s : State) : (busEnd s).accepts = s.accepts := rfl
@[simp] theorem busEnd_reads (s : State) : (busEnd s).reads = if s.txn = .reading then [] else s.reads := rfl
@[simp] theorem busEnd_readies (s : State) : (busEnd s).readies = s.readies := rfl
@[simp] theorem busEnd_nows (s : State) : (busEnd s).nows = s.nows := rfl
@[simp] theorem busEnd_inputs (s : State) : (busEnd s).inputs = s.inputs := rfl
@[simp] theorem busEnd_rdata (s : State) : (busEnd s).rdata = s.rdata := rfl
@[simp] theorem busEnd_rbyte (s : State) : (busEnd s).rbyte = s.rbyte := rfl
@[simp] theorem busEnd_trace (s : State) : (busEnd s).trace = s.trace ++ [.busEnd] := rfl
@[simp] theorem busEnd_log (s : State) : (busEnd s).log = s.log := rfl
@[simp] theorem busEnd_fresh (s : State) : (busEnd s).fresh = s.fresh := rfl

/-! ## `rstLine` -/

@[simp] theorem rstLine_cfg (v : Bool) (s : State) : (rstLine v s).cfg = s.cfg := rfl
@[simp] theorem rstLine_pendcmd (v : Bool) (s : State) : (rstLine v s).pendcmd = s.pendcmd := rfl
@[simp] theorem rstLine_pendv (v : Bool) (s : State) : (rstLine v s).pendv = s.pendv := rfl
@[simp] theorem rstLine_sum (v : Bool) (s : State) : (rstLine v s).sum = s.sum := rfl
@[simp] theorem rstLine_lenr (v : Bool) (s : State) : (rstLine v s).lenr = s.lenr := rfl
@[simp] theorem rstLine_echo (v : Bool) (s : State) : (rstLine v s).echo = s.echo := rfl
@[simp] theorem rstLine_st (v : Bool) (s : State) : (rstLine v s).st = s.st := rfl
@[simp] theorem rstLine_idx (v : Bool) (s : State) : (rstLine v s).idx = s.idx := rfl
@[simp] theorem rstLine_ackbuf (v : Bool) (s : State) : (rstLine v s).ackbuf = s.ackbuf := rfl
@[simp] theorem rstLine_t0 (v : Bool) (s : State) : (rstLine v s).t0 = s.t0 := rfl
@[simp] theorem rstLine_tmor (v : Bool) (s : State) : (rstLine v s).tmor = s.tmor := rfl
@[simp] theorem rstLine_ph (v : Bool) (s : State) : (rstLine v s).ph = s.ph := rfl
@[simp] theorem rstLine_sub (v : Bool) (s : State) : (rstLine v s).sub = s.sub := rfl
@[simp] theorem rstLine_xcause (v : Bool) (s : State) : (rstLine v s).xcause = s.xcause := rfl
@[simp] theorem rstLine_busy (v : Bool) (s : State) : (rstLine v s).busy = s.busy := rfl
@[simp] theorem rstLine_opr (v : Bool) (s : State) : (rstLine v s).opr = s.opr := rfl
@[simp] theorem rstLine_hlen (v : Bool) (s : State) : (rstLine v s).hlen = s.hlen := rfl
@[simp] theorem rstLine_blen (v : Bool) (s : State) : (rstLine v s).blen = s.blen := rfl
@[simp] theorem rstLine_maxl (v : Bool) (s : State) : (rstLine v s).maxl = s.maxl := rfl
@[simp] theorem rstLine_tmo (v : Bool) (s : State) : (rstLine v s).tmo = s.tmo := rfl
@[simp] theorem rstLine_result (v : Bool) (s : State) : (rstLine v s).result = s.result := rfl
@[simp] theorem rstLine_cause (v : Bool) (s : State) : (rstLine v s).cause = s.cause := rfl
@[simp] theorem rstLine_plen (v : Bool) (s : State) : (rstLine v s).plen = s.plen := rfl
@[simp] theorem rstLine_rdyres (v : Bool) (s : State) : (rstLine v s).rdyres = s.rdyres := rfl
@[simp] theorem rstLine_rstn (v : Bool) (s : State) : (rstLine v s).rstn = v := rfl
@[simp] theorem rstLine_hdr (v : Bool) (s : State) : (rstLine v s).hdr = s.hdr := rfl
@[simp] theorem rstLine_body (v : Bool) (s : State) : (rstLine v s).body = s.body := rfl
@[simp] theorem rstLine_rbuf (v : Bool) (s : State) : (rstLine v s).rbuf = s.rbuf := rfl
@[simp] theorem rstLine_txn (v : Bool) (s : State) : (rstLine v s).txn = s.txn := rfl
@[simp] theorem rstLine_staged (v : Bool) (s : State) : (rstLine v s).staged = s.staged := rfl
@[simp] theorem rstLine_committed (v : Bool) (s : State) : (rstLine v s).committed = s.committed := rfl
@[simp] theorem rstLine_accepts (v : Bool) (s : State) : (rstLine v s).accepts = s.accepts := rfl
@[simp] theorem rstLine_reads (v : Bool) (s : State) : (rstLine v s).reads = s.reads := rfl
@[simp] theorem rstLine_readies (v : Bool) (s : State) : (rstLine v s).readies = s.readies := rfl
@[simp] theorem rstLine_nows (v : Bool) (s : State) : (rstLine v s).nows = s.nows := rfl
@[simp] theorem rstLine_inputs (v : Bool) (s : State) : (rstLine v s).inputs = s.inputs := rfl
@[simp] theorem rstLine_rdata (v : Bool) (s : State) : (rstLine v s).rdata = s.rdata := rfl
@[simp] theorem rstLine_rbyte (v : Bool) (s : State) : (rstLine v s).rbyte = s.rbyte := rfl
@[simp] theorem rstLine_trace (v : Bool) (s : State) : (rstLine v s).trace = s.trace ++ [.rstLine v] := rfl
@[simp] theorem rstLine_log (v : Bool) (s : State) : (rstLine v s).log = s.log := rfl
@[simp] theorem rstLine_fresh (v : Bool) (s : State) : (rstLine v s).fresh = s.fresh := rfl

/-! ## `scrub` -/

@[simp] theorem scrub_cfg (s : State) : (scrub s).cfg = s.cfg := rfl
@[simp] theorem scrub_pendcmd (s : State) : (scrub s).pendcmd = s.pendcmd := rfl
@[simp] theorem scrub_pendv (s : State) : (scrub s).pendv = s.pendv := rfl
@[simp] theorem scrub_sum (s : State) : (scrub s).sum = Config.freeByte 0 s.fresh := rfl
@[simp] theorem scrub_lenr (s : State) : (scrub s).lenr = Config.freeByte 1 s.fresh := rfl
@[simp] theorem scrub_echo (s : State) : (scrub s).echo = Config.freeByte 2 s.fresh := rfl
@[simp] theorem scrub_st (s : State) : (scrub s).st = Config.freeByte 3 s.fresh := rfl
@[simp] theorem scrub_idx (s : State) : (scrub s).idx = Config.freeByte 4 s.fresh := rfl
@[simp] theorem scrub_t0 (s : State) : (scrub s).t0 = clockValue s.cfg (Config.freeTime 0 s.fresh) := rfl
@[simp] theorem scrub_tmor (s : State) : (scrub s).tmor = clockValue s.cfg (Config.freeTime 1 s.fresh) := rfl
@[simp] theorem scrub_ph (s : State) : (scrub s).ph = s.ph := rfl
@[simp] theorem scrub_sub (s : State) : (scrub s).sub = s.sub := rfl
@[simp] theorem scrub_xcause (s : State) : (scrub s).xcause = s.xcause := rfl
@[simp] theorem scrub_busy (s : State) : (scrub s).busy = s.busy := rfl
@[simp] theorem scrub_opr (s : State) : (scrub s).opr = s.opr := rfl
@[simp] theorem scrub_hlen (s : State) : (scrub s).hlen = s.hlen := rfl
@[simp] theorem scrub_blen (s : State) : (scrub s).blen = s.blen := rfl
@[simp] theorem scrub_maxl (s : State) : (scrub s).maxl = s.maxl := rfl
@[simp] theorem scrub_tmo (s : State) : (scrub s).tmo = s.tmo := rfl
@[simp] theorem scrub_result (s : State) : (scrub s).result = s.result := rfl
@[simp] theorem scrub_cause (s : State) : (scrub s).cause = s.cause := rfl
@[simp] theorem scrub_plen (s : State) : (scrub s).plen = s.plen := rfl
@[simp] theorem scrub_rdyres (s : State) : (scrub s).rdyres = s.rdyres := rfl
@[simp] theorem scrub_rstn (s : State) : (scrub s).rstn = s.rstn := rfl
@[simp] theorem scrub_hdr (s : State) : (scrub s).hdr = s.hdr := rfl
@[simp] theorem scrub_body (s : State) : (scrub s).body = s.body := rfl
@[simp] theorem scrub_rbuf (s : State) : (scrub s).rbuf = s.rbuf := rfl
@[simp] theorem scrub_txn (s : State) : (scrub s).txn = s.txn := rfl
@[simp] theorem scrub_staged (s : State) : (scrub s).staged = s.staged := rfl
@[simp] theorem scrub_committed (s : State) : (scrub s).committed = s.committed := rfl
@[simp] theorem scrub_accepts (s : State) : (scrub s).accepts = s.accepts := rfl
@[simp] theorem scrub_reads (s : State) : (scrub s).reads = s.reads := rfl
@[simp] theorem scrub_readies (s : State) : (scrub s).readies = s.readies := rfl
@[simp] theorem scrub_nows (s : State) : (scrub s).nows = s.nows := rfl
@[simp] theorem scrub_inputs (s : State) : (scrub s).inputs = s.inputs := rfl
@[simp] theorem scrub_rdata (s : State) : (scrub s).rdata = s.rdata := rfl
@[simp] theorem scrub_rbyte (s : State) : (scrub s).rbyte = Config.freeByte 17 s.fresh := rfl
@[simp] theorem scrub_trace (s : State) : (scrub s).trace = s.trace := rfl
@[simp] theorem scrub_log (s : State) : (scrub s).log = s.log := rfl
@[simp] theorem scrub_fresh (s : State) : (scrub s).fresh = s.fresh + 1 := rfl

/-! ## `startOperation` -/

@[simp] theorem startOperation_cfg (c : OpCode) (p : Phase) (s : State) : (startOperation c p s).cfg = s.cfg := rfl
@[simp] theorem startOperation_pendcmd (c : OpCode) (p : Phase) (s : State) : (startOperation c p s).pendcmd = s.pendcmd := rfl
@[simp] theorem startOperation_pendv (c : OpCode) (p : Phase) (s : State) : (startOperation c p s).pendv = s.pendv := rfl
@[simp] theorem startOperation_sum (c : OpCode) (p : Phase) (s : State) : (startOperation c p s).sum = s.sum := rfl
@[simp] theorem startOperation_lenr (c : OpCode) (p : Phase) (s : State) : (startOperation c p s).lenr = s.lenr := rfl
@[simp] theorem startOperation_echo (c : OpCode) (p : Phase) (s : State) : (startOperation c p s).echo = s.echo := rfl
@[simp] theorem startOperation_st (c : OpCode) (p : Phase) (s : State) : (startOperation c p s).st = s.st := rfl
@[simp] theorem startOperation_idx (c : OpCode) (p : Phase) (s : State) : (startOperation c p s).idx = s.idx := rfl
@[simp] theorem startOperation_ackbuf (c : OpCode) (p : Phase) (s : State) : (startOperation c p s).ackbuf = s.ackbuf := rfl
@[simp] theorem startOperation_t0 (c : OpCode) (p : Phase) (s : State) : (startOperation c p s).t0 = s.t0 := rfl
@[simp] theorem startOperation_tmor (c : OpCode) (p : Phase) (s : State) : (startOperation c p s).tmor = s.tmor := rfl
@[simp] theorem startOperation_ph (c : OpCode) (p : Phase) (s : State) : (startOperation c p s).ph = p := rfl
@[simp] theorem startOperation_sub (c : OpCode) (p : Phase) (s : State) : (startOperation c p s).sub = .latch := rfl
@[simp] theorem startOperation_xcause (c : OpCode) (p : Phase) (s : State) : (startOperation c p s).xcause = .none := rfl
@[simp] theorem startOperation_busy (c : OpCode) (p : Phase) (s : State) : (startOperation c p s).busy = true := rfl
@[simp] theorem startOperation_opr (c : OpCode) (p : Phase) (s : State) : (startOperation c p s).opr = c := rfl
@[simp] theorem startOperation_hlen (c : OpCode) (p : Phase) (s : State) : (startOperation c p s).hlen = s.hlen := rfl
@[simp] theorem startOperation_blen (c : OpCode) (p : Phase) (s : State) : (startOperation c p s).blen = s.blen := rfl
@[simp] theorem startOperation_maxl (c : OpCode) (p : Phase) (s : State) : (startOperation c p s).maxl = s.maxl := rfl
@[simp] theorem startOperation_tmo (c : OpCode) (p : Phase) (s : State) : (startOperation c p s).tmo = s.tmo := rfl
@[simp] theorem startOperation_result (c : OpCode) (p : Phase) (s : State) : (startOperation c p s).result = s.result := rfl
@[simp] theorem startOperation_cause (c : OpCode) (p : Phase) (s : State) : (startOperation c p s).cause = s.cause := rfl
@[simp] theorem startOperation_plen (c : OpCode) (p : Phase) (s : State) : (startOperation c p s).plen = 0 := rfl
@[simp] theorem startOperation_rdyres (c : OpCode) (p : Phase) (s : State) : (startOperation c p s).rdyres = s.rdyres := rfl
@[simp] theorem startOperation_rstn (c : OpCode) (p : Phase) (s : State) : (startOperation c p s).rstn = s.rstn := rfl
@[simp] theorem startOperation_hdr (c : OpCode) (p : Phase) (s : State) : (startOperation c p s).hdr = s.hdr := rfl
@[simp] theorem startOperation_body (c : OpCode) (p : Phase) (s : State) : (startOperation c p s).body = s.body := rfl
@[simp] theorem startOperation_rbuf (c : OpCode) (p : Phase) (s : State) : (startOperation c p s).rbuf = s.rbuf := rfl
@[simp] theorem startOperation_txn (c : OpCode) (p : Phase) (s : State) : (startOperation c p s).txn = s.txn := rfl
@[simp] theorem startOperation_staged (c : OpCode) (p : Phase) (s : State) : (startOperation c p s).staged = s.staged := rfl
@[simp] theorem startOperation_committed (c : OpCode) (p : Phase) (s : State) : (startOperation c p s).committed = s.committed := rfl
@[simp] theorem startOperation_accepts (c : OpCode) (p : Phase) (s : State) : (startOperation c p s).accepts = s.accepts := rfl
@[simp] theorem startOperation_reads (c : OpCode) (p : Phase) (s : State) : (startOperation c p s).reads = s.reads := rfl
@[simp] theorem startOperation_readies (c : OpCode) (p : Phase) (s : State) : (startOperation c p s).readies = s.readies := rfl
@[simp] theorem startOperation_nows (c : OpCode) (p : Phase) (s : State) : (startOperation c p s).nows = s.nows := rfl
@[simp] theorem startOperation_inputs (c : OpCode) (p : Phase) (s : State) : (startOperation c p s).inputs = s.inputs := rfl
@[simp] theorem startOperation_rdata (c : OpCode) (p : Phase) (s : State) : (startOperation c p s).rdata = s.rdata := rfl
@[simp] theorem startOperation_rbyte (c : OpCode) (p : Phase) (s : State) : (startOperation c p s).rbyte = s.rbyte := rfl
@[simp] theorem startOperation_trace (c : OpCode) (p : Phase) (s : State) : (startOperation c p s).trace = s.trace := rfl
@[simp] theorem startOperation_log (c : OpCode) (p : Phase) (s : State) : (startOperation c p s).log = s.log := rfl
@[simp] theorem startOperation_fresh (c : OpCode) (p : Phase) (s : State) : (startOperation c p s).fresh = s.fresh := rfl

/-! ## `endOperation` -/

@[simp] theorem endOperation_cfg (k : Cause) (s : State) : (endOperation k s).cfg = s.cfg := rfl
@[simp] theorem endOperation_pendcmd (k : Cause) (s : State) : (endOperation k s).pendcmd = s.pendcmd := rfl
@[simp] theorem endOperation_pendv (k : Cause) (s : State) : (endOperation k s).pendv = s.pendv := rfl
@[simp] theorem endOperation_sum (k : Cause) (s : State) : (endOperation k s).sum = s.sum := rfl
@[simp] theorem endOperation_lenr (k : Cause) (s : State) : (endOperation k s).lenr = s.lenr := rfl
@[simp] theorem endOperation_echo (k : Cause) (s : State) : (endOperation k s).echo = s.echo := rfl
@[simp] theorem endOperation_st (k : Cause) (s : State) : (endOperation k s).st = s.st := rfl
@[simp] theorem endOperation_idx (k : Cause) (s : State) : (endOperation k s).idx = s.idx := rfl
@[simp] theorem endOperation_ackbuf (k : Cause) (s : State) : (endOperation k s).ackbuf = s.ackbuf := rfl
@[simp] theorem endOperation_t0 (k : Cause) (s : State) : (endOperation k s).t0 = s.t0 := rfl
@[simp] theorem endOperation_tmor (k : Cause) (s : State) : (endOperation k s).tmor = s.tmor := rfl
@[simp] theorem endOperation_ph (k : Cause) (s : State) : (endOperation k s).ph = .idle := rfl
@[simp] theorem endOperation_sub (k : Cause) (s : State) : (endOperation k s).sub = .latch := rfl
@[simp] theorem endOperation_xcause (k : Cause) (s : State) : (endOperation k s).xcause = .none := rfl
@[simp] theorem endOperation_busy (k : Cause) (s : State) : (endOperation k s).busy = false := rfl
@[simp] theorem endOperation_opr (k : Cause) (s : State) : (endOperation k s).opr = s.opr := rfl
@[simp] theorem endOperation_hlen (k : Cause) (s : State) : (endOperation k s).hlen = s.hlen := rfl
@[simp] theorem endOperation_blen (k : Cause) (s : State) : (endOperation k s).blen = s.blen := rfl
@[simp] theorem endOperation_maxl (k : Cause) (s : State) : (endOperation k s).maxl = s.maxl := rfl
@[simp] theorem endOperation_tmo (k : Cause) (s : State) : (endOperation k s).tmo = s.tmo := rfl
@[simp] theorem endOperation_result (k : Cause) (s : State) : (endOperation k s).result = k.result := rfl
@[simp] theorem endOperation_cause (k : Cause) (s : State) : (endOperation k s).cause = k := rfl
@[simp] theorem endOperation_plen (k : Cause) (s : State) : (endOperation k s).plen = s.plen := rfl
@[simp] theorem endOperation_rdyres (k : Cause) (s : State) : (endOperation k s).rdyres = s.rdyres := rfl
@[simp] theorem endOperation_rstn (k : Cause) (s : State) : (endOperation k s).rstn = s.rstn := rfl
@[simp] theorem endOperation_hdr (k : Cause) (s : State) : (endOperation k s).hdr = s.hdr := rfl
@[simp] theorem endOperation_body (k : Cause) (s : State) : (endOperation k s).body = s.body := rfl
@[simp] theorem endOperation_rbuf (k : Cause) (s : State) : (endOperation k s).rbuf = s.rbuf := rfl
@[simp] theorem endOperation_txn (k : Cause) (s : State) : (endOperation k s).txn = s.txn := rfl
@[simp] theorem endOperation_staged (k : Cause) (s : State) : (endOperation k s).staged = s.staged := rfl
@[simp] theorem endOperation_committed (k : Cause) (s : State) : (endOperation k s).committed = s.committed := rfl
@[simp] theorem endOperation_accepts (k : Cause) (s : State) : (endOperation k s).accepts = s.accepts := rfl
@[simp] theorem endOperation_reads (k : Cause) (s : State) : (endOperation k s).reads = s.reads := rfl
@[simp] theorem endOperation_readies (k : Cause) (s : State) : (endOperation k s).readies = s.readies := rfl
@[simp] theorem endOperation_nows (k : Cause) (s : State) : (endOperation k s).nows = s.nows := rfl
@[simp] theorem endOperation_inputs (k : Cause) (s : State) : (endOperation k s).inputs = s.inputs := rfl
@[simp] theorem endOperation_rdata (k : Cause) (s : State) : (endOperation k s).rdata = s.rdata := rfl
@[simp] theorem endOperation_rbyte (k : Cause) (s : State) : (endOperation k s).rbyte = s.rbyte := rfl
@[simp] theorem endOperation_trace (k : Cause) (s : State) : (endOperation k s).trace = s.trace := rfl
@[simp] theorem endOperation_log (k : Cause) (s : State) : (endOperation k s).log = s.log := rfl
@[simp] theorem endOperation_fresh (k : Cause) (s : State) : (endOperation k s).fresh = s.fresh := rfl

/-! ## `abortTxn` -/

@[simp] theorem abortTxn_cfg (k : Cause) (s : State) : (abortTxn k s).cfg = s.cfg := rfl
@[simp] theorem abortTxn_pendcmd (k : Cause) (s : State) : (abortTxn k s).pendcmd = s.pendcmd := rfl
@[simp] theorem abortTxn_pendv (k : Cause) (s : State) : (abortTxn k s).pendv = s.pendv := rfl
@[simp] theorem abortTxn_sum (k : Cause) (s : State) : (abortTxn k s).sum = s.sum := rfl
@[simp] theorem abortTxn_lenr (k : Cause) (s : State) : (abortTxn k s).lenr = s.lenr := rfl
@[simp] theorem abortTxn_echo (k : Cause) (s : State) : (abortTxn k s).echo = s.echo := rfl
@[simp] theorem abortTxn_st (k : Cause) (s : State) : (abortTxn k s).st = s.st := rfl
@[simp] theorem abortTxn_idx (k : Cause) (s : State) : (abortTxn k s).idx = s.idx := rfl
@[simp] theorem abortTxn_ackbuf (k : Cause) (s : State) : (abortTxn k s).ackbuf = s.ackbuf := rfl
@[simp] theorem abortTxn_t0 (k : Cause) (s : State) : (abortTxn k s).t0 = s.t0 := rfl
@[simp] theorem abortTxn_tmor (k : Cause) (s : State) : (abortTxn k s).tmor = s.tmor := rfl
@[simp] theorem abortTxn_ph (k : Cause) (s : State) : (abortTxn k s).ph = .xClose := rfl
@[simp] theorem abortTxn_sub (k : Cause) (s : State) : (abortTxn k s).sub = s.sub := rfl
@[simp] theorem abortTxn_xcause (k : Cause) (s : State) : (abortTxn k s).xcause = k := rfl
@[simp] theorem abortTxn_busy (k : Cause) (s : State) : (abortTxn k s).busy = s.busy := rfl
@[simp] theorem abortTxn_opr (k : Cause) (s : State) : (abortTxn k s).opr = s.opr := rfl
@[simp] theorem abortTxn_hlen (k : Cause) (s : State) : (abortTxn k s).hlen = s.hlen := rfl
@[simp] theorem abortTxn_blen (k : Cause) (s : State) : (abortTxn k s).blen = s.blen := rfl
@[simp] theorem abortTxn_maxl (k : Cause) (s : State) : (abortTxn k s).maxl = s.maxl := rfl
@[simp] theorem abortTxn_tmo (k : Cause) (s : State) : (abortTxn k s).tmo = s.tmo := rfl
@[simp] theorem abortTxn_result (k : Cause) (s : State) : (abortTxn k s).result = s.result := rfl
@[simp] theorem abortTxn_cause (k : Cause) (s : State) : (abortTxn k s).cause = s.cause := rfl
@[simp] theorem abortTxn_plen (k : Cause) (s : State) : (abortTxn k s).plen = s.plen := rfl
@[simp] theorem abortTxn_rdyres (k : Cause) (s : State) : (abortTxn k s).rdyres = s.rdyres := rfl
@[simp] theorem abortTxn_rstn (k : Cause) (s : State) : (abortTxn k s).rstn = s.rstn := rfl
@[simp] theorem abortTxn_hdr (k : Cause) (s : State) : (abortTxn k s).hdr = s.hdr := rfl
@[simp] theorem abortTxn_body (k : Cause) (s : State) : (abortTxn k s).body = s.body := rfl
@[simp] theorem abortTxn_rbuf (k : Cause) (s : State) : (abortTxn k s).rbuf = s.rbuf := rfl
@[simp] theorem abortTxn_txn (k : Cause) (s : State) : (abortTxn k s).txn = s.txn := rfl
@[simp] theorem abortTxn_staged (k : Cause) (s : State) : (abortTxn k s).staged = s.staged := rfl
@[simp] theorem abortTxn_committed (k : Cause) (s : State) : (abortTxn k s).committed = s.committed := rfl
@[simp] theorem abortTxn_accepts (k : Cause) (s : State) : (abortTxn k s).accepts = s.accepts := rfl
@[simp] theorem abortTxn_reads (k : Cause) (s : State) : (abortTxn k s).reads = s.reads := rfl
@[simp] theorem abortTxn_readies (k : Cause) (s : State) : (abortTxn k s).readies = s.readies := rfl
@[simp] theorem abortTxn_nows (k : Cause) (s : State) : (abortTxn k s).nows = s.nows := rfl
@[simp] theorem abortTxn_inputs (k : Cause) (s : State) : (abortTxn k s).inputs = s.inputs := rfl
@[simp] theorem abortTxn_rdata (k : Cause) (s : State) : (abortTxn k s).rdata = s.rdata := rfl
@[simp] theorem abortTxn_rbyte (k : Cause) (s : State) : (abortTxn k s).rbyte = s.rbyte := rfl
@[simp] theorem abortTxn_trace (k : Cause) (s : State) : (abortTxn k s).trace = s.trace := rfl
@[simp] theorem abortTxn_log (k : Cause) (s : State) : (abortTxn k s).log = s.log := rfl
@[simp] theorem abortTxn_fresh (k : Cause) (s : State) : (abortTxn k s).fresh = s.fresh := rfl

/-! ## `rejectCode` -/

@[simp] theorem rejectCode_cfg (c : OpCode) (s : State) : (rejectCode c s).cfg = s.cfg := rfl
@[simp] theorem rejectCode_pendcmd (c : OpCode) (s : State) : (rejectCode c s).pendcmd = s.pendcmd := rfl
@[simp] theorem rejectCode_pendv (c : OpCode) (s : State) : (rejectCode c s).pendv = s.pendv := rfl
@[simp] theorem rejectCode_sum (c : OpCode) (s : State) : (rejectCode c s).sum = s.sum := rfl
@[simp] theorem rejectCode_lenr (c : OpCode) (s : State) : (rejectCode c s).lenr = s.lenr := rfl
@[simp] theorem rejectCode_echo (c : OpCode) (s : State) : (rejectCode c s).echo = s.echo := rfl
@[simp] theorem rejectCode_st (c : OpCode) (s : State) : (rejectCode c s).st = s.st := rfl
@[simp] theorem rejectCode_idx (c : OpCode) (s : State) : (rejectCode c s).idx = s.idx := rfl
@[simp] theorem rejectCode_ackbuf (c : OpCode) (s : State) : (rejectCode c s).ackbuf = s.ackbuf := rfl
@[simp] theorem rejectCode_t0 (c : OpCode) (s : State) : (rejectCode c s).t0 = s.t0 := rfl
@[simp] theorem rejectCode_tmor (c : OpCode) (s : State) : (rejectCode c s).tmor = s.tmor := rfl
@[simp] theorem rejectCode_ph (c : OpCode) (s : State) : (rejectCode c s).ph = s.ph := rfl
@[simp] theorem rejectCode_sub (c : OpCode) (s : State) : (rejectCode c s).sub = s.sub := rfl
@[simp] theorem rejectCode_xcause (c : OpCode) (s : State) : (rejectCode c s).xcause = s.xcause := rfl
@[simp] theorem rejectCode_busy (c : OpCode) (s : State) : (rejectCode c s).busy = s.busy := rfl
@[simp] theorem rejectCode_opr (c : OpCode) (s : State) : (rejectCode c s).opr = c := rfl
@[simp] theorem rejectCode_hlen (c : OpCode) (s : State) : (rejectCode c s).hlen = s.hlen := rfl
@[simp] theorem rejectCode_blen (c : OpCode) (s : State) : (rejectCode c s).blen = s.blen := rfl
@[simp] theorem rejectCode_maxl (c : OpCode) (s : State) : (rejectCode c s).maxl = s.maxl := rfl
@[simp] theorem rejectCode_tmo (c : OpCode) (s : State) : (rejectCode c s).tmo = s.tmo := rfl
@[simp] theorem rejectCode_result (c : OpCode) (s : State) : (rejectCode c s).result = .invalidFrame := rfl
@[simp] theorem rejectCode_cause (c : OpCode) (s : State) : (rejectCode c s).cause = .illegalOp := rfl
@[simp] theorem rejectCode_plen (c : OpCode) (s : State) : (rejectCode c s).plen = 0 := rfl
@[simp] theorem rejectCode_rdyres (c : OpCode) (s : State) : (rejectCode c s).rdyres = s.rdyres := rfl
@[simp] theorem rejectCode_rstn (c : OpCode) (s : State) : (rejectCode c s).rstn = s.rstn := rfl
@[simp] theorem rejectCode_hdr (c : OpCode) (s : State) : (rejectCode c s).hdr = s.hdr := rfl
@[simp] theorem rejectCode_body (c : OpCode) (s : State) : (rejectCode c s).body = s.body := rfl
@[simp] theorem rejectCode_rbuf (c : OpCode) (s : State) : (rejectCode c s).rbuf = s.rbuf := rfl
@[simp] theorem rejectCode_txn (c : OpCode) (s : State) : (rejectCode c s).txn = s.txn := rfl
@[simp] theorem rejectCode_staged (c : OpCode) (s : State) : (rejectCode c s).staged = s.staged := rfl
@[simp] theorem rejectCode_committed (c : OpCode) (s : State) : (rejectCode c s).committed = s.committed := rfl
@[simp] theorem rejectCode_accepts (c : OpCode) (s : State) : (rejectCode c s).accepts = s.accepts := rfl
@[simp] theorem rejectCode_reads (c : OpCode) (s : State) : (rejectCode c s).reads = s.reads := rfl
@[simp] theorem rejectCode_readies (c : OpCode) (s : State) : (rejectCode c s).readies = s.readies := rfl
@[simp] theorem rejectCode_nows (c : OpCode) (s : State) : (rejectCode c s).nows = s.nows := rfl
@[simp] theorem rejectCode_inputs (c : OpCode) (s : State) : (rejectCode c s).inputs = s.inputs := rfl
@[simp] theorem rejectCode_rdata (c : OpCode) (s : State) : (rejectCode c s).rdata = s.rdata := rfl
@[simp] theorem rejectCode_rbyte (c : OpCode) (s : State) : (rejectCode c s).rbyte = s.rbyte := rfl
@[simp] theorem rejectCode_trace (c : OpCode) (s : State) : (rejectCode c s).trace = s.trace := rfl
@[simp] theorem rejectCode_log (c : OpCode) (s : State) : (rejectCode c s).log = s.log := rfl
@[simp] theorem rejectCode_fresh (c : OpCode) (s : State) : (rejectCode c s).fresh = s.fresh := rfl

/-! ## `writeRbuf` -/

@[simp] theorem writeRbuf_cfg (i : Nat) (v : Byte) (s : State) : (writeRbuf i v s).cfg = s.cfg := rfl
@[simp] theorem writeRbuf_pendcmd (i : Nat) (v : Byte) (s : State) : (writeRbuf i v s).pendcmd = s.pendcmd := rfl
@[simp] theorem writeRbuf_pendv (i : Nat) (v : Byte) (s : State) : (writeRbuf i v s).pendv = s.pendv := rfl
@[simp] theorem writeRbuf_sum (i : Nat) (v : Byte) (s : State) : (writeRbuf i v s).sum = s.sum := rfl
@[simp] theorem writeRbuf_lenr (i : Nat) (v : Byte) (s : State) : (writeRbuf i v s).lenr = s.lenr := rfl
@[simp] theorem writeRbuf_echo (i : Nat) (v : Byte) (s : State) : (writeRbuf i v s).echo = s.echo := rfl
@[simp] theorem writeRbuf_st (i : Nat) (v : Byte) (s : State) : (writeRbuf i v s).st = s.st := rfl
@[simp] theorem writeRbuf_idx (i : Nat) (v : Byte) (s : State) : (writeRbuf i v s).idx = s.idx := rfl
@[simp] theorem writeRbuf_ackbuf (i : Nat) (v : Byte) (s : State) : (writeRbuf i v s).ackbuf = s.ackbuf := rfl
@[simp] theorem writeRbuf_t0 (i : Nat) (v : Byte) (s : State) : (writeRbuf i v s).t0 = s.t0 := rfl
@[simp] theorem writeRbuf_tmor (i : Nat) (v : Byte) (s : State) : (writeRbuf i v s).tmor = s.tmor := rfl
@[simp] theorem writeRbuf_ph (i : Nat) (v : Byte) (s : State) : (writeRbuf i v s).ph = s.ph := rfl
@[simp] theorem writeRbuf_sub (i : Nat) (v : Byte) (s : State) : (writeRbuf i v s).sub = s.sub := rfl
@[simp] theorem writeRbuf_xcause (i : Nat) (v : Byte) (s : State) : (writeRbuf i v s).xcause = s.xcause := rfl
@[simp] theorem writeRbuf_busy (i : Nat) (v : Byte) (s : State) : (writeRbuf i v s).busy = s.busy := rfl
@[simp] theorem writeRbuf_opr (i : Nat) (v : Byte) (s : State) : (writeRbuf i v s).opr = s.opr := rfl
@[simp] theorem writeRbuf_hlen (i : Nat) (v : Byte) (s : State) : (writeRbuf i v s).hlen = s.hlen := rfl
@[simp] theorem writeRbuf_blen (i : Nat) (v : Byte) (s : State) : (writeRbuf i v s).blen = s.blen := rfl
@[simp] theorem writeRbuf_maxl (i : Nat) (v : Byte) (s : State) : (writeRbuf i v s).maxl = s.maxl := rfl
@[simp] theorem writeRbuf_tmo (i : Nat) (v : Byte) (s : State) : (writeRbuf i v s).tmo = s.tmo := rfl
@[simp] theorem writeRbuf_result (i : Nat) (v : Byte) (s : State) : (writeRbuf i v s).result = s.result := rfl
@[simp] theorem writeRbuf_cause (i : Nat) (v : Byte) (s : State) : (writeRbuf i v s).cause = s.cause := rfl
@[simp] theorem writeRbuf_plen (i : Nat) (v : Byte) (s : State) : (writeRbuf i v s).plen = s.plen := rfl
@[simp] theorem writeRbuf_rdyres (i : Nat) (v : Byte) (s : State) : (writeRbuf i v s).rdyres = s.rdyres := rfl
@[simp] theorem writeRbuf_rstn (i : Nat) (v : Byte) (s : State) : (writeRbuf i v s).rstn = s.rstn := rfl
@[simp] theorem writeRbuf_hdr (i : Nat) (v : Byte) (s : State) : (writeRbuf i v s).hdr = s.hdr := rfl
@[simp] theorem writeRbuf_body (i : Nat) (v : Byte) (s : State) : (writeRbuf i v s).body = s.body := rfl
@[simp] theorem writeRbuf_rbuf (i : Nat) (v : Byte) (s : State) : (writeRbuf i v s).rbuf = Memory.write s.rbuf i v := rfl
@[simp] theorem writeRbuf_txn (i : Nat) (v : Byte) (s : State) : (writeRbuf i v s).txn = s.txn := rfl
@[simp] theorem writeRbuf_staged (i : Nat) (v : Byte) (s : State) : (writeRbuf i v s).staged = s.staged := rfl
@[simp] theorem writeRbuf_committed (i : Nat) (v : Byte) (s : State) : (writeRbuf i v s).committed = s.committed := rfl
@[simp] theorem writeRbuf_accepts (i : Nat) (v : Byte) (s : State) : (writeRbuf i v s).accepts = s.accepts := rfl
@[simp] theorem writeRbuf_reads (i : Nat) (v : Byte) (s : State) : (writeRbuf i v s).reads = s.reads := rfl
@[simp] theorem writeRbuf_readies (i : Nat) (v : Byte) (s : State) : (writeRbuf i v s).readies = s.readies := rfl
@[simp] theorem writeRbuf_nows (i : Nat) (v : Byte) (s : State) : (writeRbuf i v s).nows = s.nows := rfl
@[simp] theorem writeRbuf_inputs (i : Nat) (v : Byte) (s : State) : (writeRbuf i v s).inputs = s.inputs := rfl
@[simp] theorem writeRbuf_rdata (i : Nat) (v : Byte) (s : State) : (writeRbuf i v s).rdata = s.rdata := rfl
@[simp] theorem writeRbuf_rbyte (i : Nat) (v : Byte) (s : State) : (writeRbuf i v s).rbyte = s.rbyte := rfl
@[simp] theorem writeRbuf_trace (i : Nat) (v : Byte) (s : State) : (writeRbuf i v s).trace = s.trace := rfl
@[simp] theorem writeRbuf_log (i : Nat) (v : Byte) (s : State) : (writeRbuf i v s).log = s.log := rfl
@[simp] theorem writeRbuf_fresh (i : Nat) (v : Byte) (s : State) : (writeRbuf i v s).fresh = s.fresh := rfl

/-! ## `abort` -/

@[simp] theorem abort_cfg (k : Cause) (s : State) : (abort k s).cfg = s.cfg := rfl
@[simp] theorem abort_pendcmd (k : Cause) (s : State) : (abort k s).pendcmd = s.pendcmd := rfl
@[simp] theorem abort_pendv (k : Cause) (s : State) : (abort k s).pendv = s.pendv := rfl
@[simp] theorem abort_t0 (k : Cause) (s : State) : (abort k s).t0 = clockValue s.cfg (Config.freeTime 0 s.fresh) := rfl
@[simp] theorem abort_tmor (k : Cause) (s : State) : (abort k s).tmor = clockValue s.cfg (Config.freeTime 1 s.fresh) := rfl
@[simp] theorem abort_ph (k : Cause) (s : State) : (abort k s).ph = .idle := rfl
@[simp] theorem abort_sub (k : Cause) (s : State) : (abort k s).sub = .latch := rfl
@[simp] theorem abort_xcause (k : Cause) (s : State) : (abort k s).xcause = .none := rfl
@[simp] theorem abort_busy (k : Cause) (s : State) : (abort k s).busy = false := rfl
@[simp] theorem abort_opr (k : Cause) (s : State) : (abort k s).opr = s.opr := rfl
@[simp] theorem abort_hlen (k : Cause) (s : State) : (abort k s).hlen = s.hlen := rfl
@[simp] theorem abort_blen (k : Cause) (s : State) : (abort k s).blen = s.blen := rfl
@[simp] theorem abort_maxl (k : Cause) (s : State) : (abort k s).maxl = s.maxl := rfl
@[simp] theorem abort_tmo (k : Cause) (s : State) : (abort k s).tmo = s.tmo := rfl
@[simp] theorem abort_result (k : Cause) (s : State) : (abort k s).result = (k : Cause).result := rfl
@[simp] theorem abort_cause (k : Cause) (s : State) : (abort k s).cause = k := rfl
@[simp] theorem abort_plen (k : Cause) (s : State) : (abort k s).plen = s.plen := rfl
@[simp] theorem abort_rdyres (k : Cause) (s : State) : (abort k s).rdyres = s.rdyres := rfl
@[simp] theorem abort_rstn (k : Cause) (s : State) : (abort k s).rstn = s.rstn := rfl
@[simp] theorem abort_hdr (k : Cause) (s : State) : (abort k s).hdr = s.hdr := rfl
@[simp] theorem abort_body (k : Cause) (s : State) : (abort k s).body = s.body := rfl
@[simp] theorem abort_rbuf (k : Cause) (s : State) : (abort k s).rbuf = s.rbuf := rfl
@[simp] theorem abort_txn (k : Cause) (s : State) : (abort k s).txn = s.txn := rfl
@[simp] theorem abort_staged (k : Cause) (s : State) : (abort k s).staged = s.staged := rfl
@[simp] theorem abort_committed (k : Cause) (s : State) : (abort k s).committed = s.committed := rfl
@[simp] theorem abort_accepts (k : Cause) (s : State) : (abort k s).accepts = s.accepts := rfl
@[simp] theorem abort_reads (k : Cause) (s : State) : (abort k s).reads = s.reads := rfl
@[simp] theorem abort_readies (k : Cause) (s : State) : (abort k s).readies = s.readies := rfl
@[simp] theorem abort_nows (k : Cause) (s : State) : (abort k s).nows = s.nows := rfl
@[simp] theorem abort_inputs (k : Cause) (s : State) : (abort k s).inputs = s.inputs := rfl
@[simp] theorem abort_rdata (k : Cause) (s : State) : (abort k s).rdata = s.rdata := rfl
@[simp] theorem abort_rbyte (k : Cause) (s : State) : (abort k s).rbyte = Config.freeByte 17 s.fresh := rfl
@[simp] theorem abort_trace (k : Cause) (s : State) : (abort k s).trace = s.trace := rfl
@[simp] theorem abort_log (k : Cause) (s : State) : (abort k s).log = s.log := rfl
@[simp] theorem abort_fresh (k : Cause) (s : State) : (abort k s).fresh = s.fresh + 1 := rfl

/-! ## `complete` -/

@[simp] theorem complete_cfg (s : State) : (complete s).cfg = s.cfg := rfl
@[simp] theorem complete_pendcmd (s : State) : (complete s).pendcmd = s.pendcmd := rfl
@[simp] theorem complete_pendv (s : State) : (complete s).pendv = s.pendv := rfl
@[simp] theorem complete_t0 (s : State) : (complete s).t0 = clockValue s.cfg (Config.freeTime 0 s.fresh) := rfl
@[simp] theorem complete_tmor (s : State) : (complete s).tmor = clockValue s.cfg (Config.freeTime 1 s.fresh) := rfl
@[simp] theorem complete_ph (s : State) : (complete s).ph = .idle := rfl
@[simp] theorem complete_sub (s : State) : (complete s).sub = .latch := rfl
@[simp] theorem complete_xcause (s : State) : (complete s).xcause = .none := rfl
@[simp] theorem complete_busy (s : State) : (complete s).busy = false := rfl
@[simp] theorem complete_opr (s : State) : (complete s).opr = s.opr := rfl
@[simp] theorem complete_hlen (s : State) : (complete s).hlen = s.hlen := rfl
@[simp] theorem complete_blen (s : State) : (complete s).blen = s.blen := rfl
@[simp] theorem complete_maxl (s : State) : (complete s).maxl = s.maxl := rfl
@[simp] theorem complete_tmo (s : State) : (complete s).tmo = s.tmo := rfl
@[simp] theorem complete_result (s : State) : (complete s).result = .ok := rfl
@[simp] theorem complete_cause (s : State) : (complete s).cause = .none := rfl
@[simp] theorem complete_plen (s : State) : (complete s).plen = s.plen := rfl
@[simp] theorem complete_rdyres (s : State) : (complete s).rdyres = s.rdyres := rfl
@[simp] theorem complete_rstn (s : State) : (complete s).rstn = s.rstn := rfl
@[simp] theorem complete_hdr (s : State) : (complete s).hdr = s.hdr := rfl
@[simp] theorem complete_body (s : State) : (complete s).body = s.body := rfl
@[simp] theorem complete_rbuf (s : State) : (complete s).rbuf = s.rbuf := rfl
@[simp] theorem complete_txn (s : State) : (complete s).txn = s.txn := rfl
@[simp] theorem complete_staged (s : State) : (complete s).staged = s.staged := rfl
@[simp] theorem complete_committed (s : State) : (complete s).committed = s.committed := rfl
@[simp] theorem complete_accepts (s : State) : (complete s).accepts = s.accepts := rfl
@[simp] theorem complete_reads (s : State) : (complete s).reads = s.reads := rfl
@[simp] theorem complete_readies (s : State) : (complete s).readies = s.readies := rfl
@[simp] theorem complete_nows (s : State) : (complete s).nows = s.nows := rfl
@[simp] theorem complete_inputs (s : State) : (complete s).inputs = s.inputs := rfl
@[simp] theorem complete_rdata (s : State) : (complete s).rdata = s.rdata := rfl
@[simp] theorem complete_rbyte (s : State) : (complete s).rbyte = Config.freeByte 17 s.fresh := rfl
@[simp] theorem complete_trace (s : State) : (complete s).trace = s.trace := rfl
@[simp] theorem complete_log (s : State) : (complete s).log = s.log := rfl
@[simp] theorem complete_fresh (s : State) : (complete s).fresh = s.fresh + 1 := rfl

/-! ## `logEmitted` -/

/-- An accepted byte is logged; a rejected one moves the free-value counter and may be logged (R104). -/
theorem logEmitted_eq (b : Byte) (a : Bool) (s : State) :
    ∃ l n, logEmitted b a s = { s with log := l, fresh := n } ∧ (a = true → l = s.log ++ [.emitted b] ∧ n = s.fresh) := by
  cases a
  · exact ⟨_, _, rfl, by simp⟩
  · exact ⟨_, _, rfl, by simp⟩

@[simp] theorem logEmitted_cfg (b : Byte) (a : Bool) (s : State) : (logEmitted b a s).cfg = s.cfg := by
  cases a <;> rfl
@[simp] theorem logEmitted_pendcmd (b : Byte) (a : Bool) (s : State) : (logEmitted b a s).pendcmd = s.pendcmd := by
  cases a <;> rfl
@[simp] theorem logEmitted_pendv (b : Byte) (a : Bool) (s : State) : (logEmitted b a s).pendv = s.pendv := by
  cases a <;> rfl
@[simp] theorem logEmitted_sum (b : Byte) (a : Bool) (s : State) : (logEmitted b a s).sum = s.sum := by
  cases a <;> rfl
@[simp] theorem logEmitted_lenr (b : Byte) (a : Bool) (s : State) : (logEmitted b a s).lenr = s.lenr := by
  cases a <;> rfl
@[simp] theorem logEmitted_echo (b : Byte) (a : Bool) (s : State) : (logEmitted b a s).echo = s.echo := by
  cases a <;> rfl
@[simp] theorem logEmitted_st (b : Byte) (a : Bool) (s : State) : (logEmitted b a s).st = s.st := by
  cases a <;> rfl
@[simp] theorem logEmitted_idx (b : Byte) (a : Bool) (s : State) : (logEmitted b a s).idx = s.idx := by
  cases a <;> rfl
@[simp] theorem logEmitted_ackbuf (b : Byte) (a : Bool) (s : State) : (logEmitted b a s).ackbuf = s.ackbuf := by
  cases a <;> rfl
@[simp] theorem logEmitted_t0 (b : Byte) (a : Bool) (s : State) : (logEmitted b a s).t0 = s.t0 := by
  cases a <;> rfl
@[simp] theorem logEmitted_tmor (b : Byte) (a : Bool) (s : State) : (logEmitted b a s).tmor = s.tmor := by
  cases a <;> rfl
@[simp] theorem logEmitted_ph (b : Byte) (a : Bool) (s : State) : (logEmitted b a s).ph = s.ph := by
  cases a <;> rfl
@[simp] theorem logEmitted_sub (b : Byte) (a : Bool) (s : State) : (logEmitted b a s).sub = s.sub := by
  cases a <;> rfl
@[simp] theorem logEmitted_xcause (b : Byte) (a : Bool) (s : State) : (logEmitted b a s).xcause = s.xcause := by
  cases a <;> rfl
@[simp] theorem logEmitted_busy (b : Byte) (a : Bool) (s : State) : (logEmitted b a s).busy = s.busy := by
  cases a <;> rfl
@[simp] theorem logEmitted_opr (b : Byte) (a : Bool) (s : State) : (logEmitted b a s).opr = s.opr := by
  cases a <;> rfl
@[simp] theorem logEmitted_hlen (b : Byte) (a : Bool) (s : State) : (logEmitted b a s).hlen = s.hlen := by
  cases a <;> rfl
@[simp] theorem logEmitted_blen (b : Byte) (a : Bool) (s : State) : (logEmitted b a s).blen = s.blen := by
  cases a <;> rfl
@[simp] theorem logEmitted_maxl (b : Byte) (a : Bool) (s : State) : (logEmitted b a s).maxl = s.maxl := by
  cases a <;> rfl
@[simp] theorem logEmitted_tmo (b : Byte) (a : Bool) (s : State) : (logEmitted b a s).tmo = s.tmo := by
  cases a <;> rfl
@[simp] theorem logEmitted_result (b : Byte) (a : Bool) (s : State) : (logEmitted b a s).result = s.result := by
  cases a <;> rfl
@[simp] theorem logEmitted_cause (b : Byte) (a : Bool) (s : State) : (logEmitted b a s).cause = s.cause := by
  cases a <;> rfl
@[simp] theorem logEmitted_plen (b : Byte) (a : Bool) (s : State) : (logEmitted b a s).plen = s.plen := by
  cases a <;> rfl
@[simp] theorem logEmitted_rdyres (b : Byte) (a : Bool) (s : State) : (logEmitted b a s).rdyres = s.rdyres := by
  cases a <;> rfl
@[simp] theorem logEmitted_rstn (b : Byte) (a : Bool) (s : State) : (logEmitted b a s).rstn = s.rstn := by
  cases a <;> rfl
@[simp] theorem logEmitted_hdr (b : Byte) (a : Bool) (s : State) : (logEmitted b a s).hdr = s.hdr := by
  cases a <;> rfl
@[simp] theorem logEmitted_body (b : Byte) (a : Bool) (s : State) : (logEmitted b a s).body = s.body := by
  cases a <;> rfl
@[simp] theorem logEmitted_rbuf (b : Byte) (a : Bool) (s : State) : (logEmitted b a s).rbuf = s.rbuf := by
  cases a <;> rfl
@[simp] theorem logEmitted_txn (b : Byte) (a : Bool) (s : State) : (logEmitted b a s).txn = s.txn := by
  cases a <;> rfl
@[simp] theorem logEmitted_staged (b : Byte) (a : Bool) (s : State) : (logEmitted b a s).staged = s.staged := by
  cases a <;> rfl
@[simp] theorem logEmitted_committed (b : Byte) (a : Bool) (s : State) : (logEmitted b a s).committed = s.committed := by
  cases a <;> rfl
@[simp] theorem logEmitted_accepts (b : Byte) (a : Bool) (s : State) : (logEmitted b a s).accepts = s.accepts := by
  cases a <;> rfl
@[simp] theorem logEmitted_reads (b : Byte) (a : Bool) (s : State) : (logEmitted b a s).reads = s.reads := by
  cases a <;> rfl
@[simp] theorem logEmitted_readies (b : Byte) (a : Bool) (s : State) : (logEmitted b a s).readies = s.readies := by
  cases a <;> rfl
@[simp] theorem logEmitted_nows (b : Byte) (a : Bool) (s : State) : (logEmitted b a s).nows = s.nows := by
  cases a <;> rfl
@[simp] theorem logEmitted_inputs (b : Byte) (a : Bool) (s : State) : (logEmitted b a s).inputs = s.inputs := by
  cases a <;> rfl
@[simp] theorem logEmitted_rdata (b : Byte) (a : Bool) (s : State) : (logEmitted b a s).rdata = s.rdata := by
  cases a <;> rfl
@[simp] theorem logEmitted_rbyte (b : Byte) (a : Bool) (s : State) : (logEmitted b a s).rbyte = s.rbyte := by
  cases a <;> rfl
@[simp] theorem logEmitted_trace (b : Byte) (a : Bool) (s : State) : (logEmitted b a s).trace = s.trace := by
  cases a <;> rfl

end Sys2Proof.Machine
end

