-- ==== Sys2Proof/Laws/Sequencer.lean ====
section
/-! SUPPORT. What an event that needs an answer does, that every visit of a phase uses up something, and how a run
unfolds and carries a property. -/

namespace Sys2Proof.Machine

/-! ## Answers -/

/-- A clock sample is taken: the first of `nows`. -/
theorem askNow_cases {k : Nat → State → State} {s t : State} (h : askNow k s = some t) :
    ∃ x xs, s.nows = x :: xs ∧
      t = k (clockValue s.cfg x) { s with nows := xs, trace := s.trace ++ [.now (clockValue s.cfg x)] } := by
  unfold askNow at h
  split at h
  · simp at h
  · next x xs hx => exact ⟨x, xs, hx, (Option.some.inj h).symm⟩

/-- A readiness sample is taken: the first of `readies`. -/
theorem askReady_cases {k : Bool → State → State} {s t : State} (h : askReady k s = some t) :
    ∃ r rs, s.readies = r :: rs ∧ t = k r { s with readies := rs, trace := s.trace ++ [.ready r] } := by
  unfold askReady at h
  split at h
  · simp at h
  · next r rs hr => exact ⟨r, rs, hr, (Option.some.inj h).symm⟩

/-- A byte is taken from the bus: the first of `reads`. -/
theorem askRead_cases {k : Byte → State → State} {s t : State} (h : askRead k s = some t) :
    ∃ b bs, s.reads = b :: bs ∧
      t = k b { s with reads := bs, txn := .reading, trace := s.trace ++ [.busRead b] } := by
  unfold askRead at h
  split at h
  · simp at h
  · next b bs hb => exact ⟨b, bs, hb, (Option.some.inj h).symm⟩

/-- A byte is emitted: accepted and staged, or rejected, which aborts (R101). -/
theorem emitByte_cases {b : Byte} {k : State → State} {s t : State} (h : emitByte b k s = some t) :
    (∃ as, s.accepts = true :: as ∧
      t = k (logEmitted b true
        { s with accepts := as, txn := .writing, staged := s.staged ++ [b], trace := s.trace ++ [.busWrite b true] })) ∨
    (∃ as, s.accepts = false :: as ∧
      t = abort .writeRejected (logEmitted b false
        { s with accepts := as, txn := .writing, trace := s.trace ++ [.busWrite b false] })) := by
  unfold emitByte askWrite at h
  split at h
  · simp at h
  · next a as ha =>
    cases a
    · exact .inr ⟨as, ha, by simpa using h.symm⟩
    · exact .inl ⟨as, ha, by simpa using h.symm⟩

theorem SubStep.cases_or (x : SubStep) : x = .entry ∨ x = .latch ∨ x = .ready ∨ x = .clock := by
  cases x <;> simp

/-- One visit of a readiness wait (R140). -/
theorem waitVisit_cases {d : Nat} {yes no : State → State} {s t : State} (h : waitVisit d yes no s = some t) :
    (∃ x xs, (s.sub = .entry ∨ s.sub = .latch) ∧ s.nows = x :: xs ∧
      t = { s with
        nows := xs
        trace := s.trace ++ [.now (clockValue s.cfg x)]
        t0 := clockValue s.cfg x
        tmor := d
        sub := .ready }) ∨
    (∃ r rs, s.sub = .ready ∧ s.readies = r :: rs ∧
      t = if r then yes { s with readies := rs, trace := s.trace ++ [.ready r] }
        else { s with readies := rs, trace := s.trace ++ [.ready r], sub := .clock }) ∨
    (∃ x xs, s.sub = .clock ∧ s.nows = x :: xs ∧
      t = if s.tmor ≤ elapsed s.cfg (clockValue s.cfg x) s.t0 then
          no { s with nows := xs, trace := s.trace ++ [.now (clockValue s.cfg x)] }
        else { s with nows := xs, trace := s.trace ++ [.now (clockValue s.cfg x)], sub := .ready }) := by
  unfold waitVisit at h
  rcases s.sub.cases_or with hs | hs | hs | hs <;> rw [hs] at h <;> simp only at h
  case inr.inr.inl =>
    obtain ⟨r, rs, hr, rfl⟩ := askReady_cases h
    exact .inr (.inl ⟨r, rs, hs, hr, rfl⟩)
  case inr.inr.inr =>
    obtain ⟨x, xs, hx, rfl⟩ := askNow_cases h
    exact .inr (.inr ⟨x, xs, hs, hx, by simp [timedOut]⟩)
  all_goals
    obtain ⟨x, xs, hx, rfl⟩ := askNow_cases h
    exact .inl ⟨x, xs, by simp [hs], hx, rfl⟩

/-- One visit of a delay (R92). -/
theorem delayVisit_cases {d : Nat} {done : State → State} {s t : State} (h : delayVisit d done s = some t) :
    (∃ x xs, (s.sub = .entry ∨ s.sub = .latch) ∧ s.nows = x :: xs ∧
      t = { s with
        nows := xs
        trace := s.trace ++ [.now (clockValue s.cfg x)]
        t0 := clockValue s.cfg x
        tmor := d
        sub := .clock }) ∨
    (∃ x xs, (s.sub = .ready ∨ s.sub = .clock) ∧ s.nows = x :: xs ∧
      t = if s.tmor ≤ elapsed s.cfg (clockValue s.cfg x) s.t0 then
          done { s with nows := xs, trace := s.trace ++ [.now (clockValue s.cfg x)] }
        else { s with nows := xs, trace := s.trace ++ [.now (clockValue s.cfg x)], sub := .clock }) := by
  unfold delayVisit at h
  rcases s.sub.cases_or with hs | hs | hs | hs <;> rw [hs] at h <;> simp only at h <;>
    obtain ⟨x, xs, hx, rfl⟩ := askNow_cases h
  · exact .inl ⟨x, xs, by simp [hs], hx, rfl⟩
  · exact .inl ⟨x, xs, by simp [hs], hx, rfl⟩
  · exact .inr ⟨x, xs, by simp [hs], hx, by simp [timedOut]⟩
  · exact .inr ⟨x, xs, by simp [hs], hx, by simp [timedOut]⟩

/-! ## A run -/

theorem runVisits_of_rest {s : State} (h : tick s = none) (n : Nat) : runVisits n s = s := by
  cases n with
  | zero => rfl
  | succ n => simp [runVisits, h]

theorem resume_of_rest {s : State} (h : tick s = none) : resume s = s := runVisits_of_rest h _

/-- A property that every visit keeps holds after any number of visits. -/
theorem runVisits_keeps {P : State → Prop} (hk : ∀ s t, tick s = some t → P s → P t) (n : Nat) {s : State} (h : P s) :
    P (runVisits n s) := by
  induction n generalizing s with
  | zero => exact h
  | succ n ih =>
    unfold runVisits
    split
    · exact h
    · next t ht => exact ih (hk s t ht h)

/-- A property that every visit keeps holds after a run. -/
theorem resume_keeps {P : State → Prop} (hk : ∀ s t, tick s = some t → P s → P t) {s : State} (h : P s) : P (resume s) :=
  runVisits_keeps hk _ h

end Sys2Proof.Machine
end

