-- ==== Sys2Proof/Laws/Answers.lean ====
section
/-! SUPPORT. A visit does not look past the answers it takes: with more answers queued it does the same. -/

namespace Sys2Proof.Machine

/-- A state with more answers queued. -/
def State.more (s : State) (ns : List Nat) (rs as : List Bool) (bs : List Byte) : State :=
  { s with nows := s.nows ++ ns, readies := s.readies ++ rs, accepts := s.accepts ++ as, reads := s.reads ++ bs }

variable {ns : List Nat} {rs as : List Bool} {bs : List Byte}

theorem askNow_more {k : Nat → State → State} {s t : State} (h : askNow k s = some t)
    (hk : ∀ x u, u.ph = s.ph → k x (u.more ns rs as bs) = (k x u).more ns rs as bs) :
    askNow k (s.more ns rs as bs) = some (t.more ns rs as bs) := by
  obtain ⟨x, xs, hx, rfl⟩ := askNow_cases h
  refine Eq.trans ?_ (congrArg some (hk _ _ (by rfl)))
  simp [askNow, State.more, hx]

theorem askReady_more {k : Bool → State → State} {s t : State} (h : askReady k s = some t)
    (hk : ∀ x u, u.ph = s.ph → k x (u.more ns rs as bs) = (k x u).more ns rs as bs) :
    askReady k (s.more ns rs as bs) = some (t.more ns rs as bs) := by
  obtain ⟨x, xs, hx, rfl⟩ := askReady_cases h
  refine Eq.trans ?_ (congrArg some (hk _ _ (by rfl)))
  simp [askReady, State.more, hx]

theorem askRead_more {k : Byte → State → State} {s t : State} (h : askRead k s = some t)
    (hk : ∀ x u, u.ph = s.ph → k x (u.more ns rs as bs) = (k x u).more ns rs as bs) :
    askRead k (s.more ns rs as bs) = some (t.more ns rs as bs) := by
  obtain ⟨x, xs, hx, rfl⟩ := askRead_cases h
  refine Eq.trans ?_ (congrArg some (hk _ _ (by rfl)))
  simp [askRead, State.more, hx]

theorem emitByte_more {b : Byte} {k : State → State} {s t : State} (h : emitByte b k s = some t)
    (hk : ∀ u, u.ph = s.ph → k (u.more ns rs as bs) = (k u).more ns rs as bs) :
    emitByte b k (s.more ns rs as bs) = some (t.more ns rs as bs) := by
  rcases emitByte_cases h with ⟨xs, hx, rfl⟩ | ⟨xs, hx, rfl⟩
  · refine Eq.trans ?_ (congrArg some (hk _ (by rfl)))
    simp [emitByte, askWrite, logEmitted, State.more, hx]
  · simp [emitByte, askWrite, State.more, hx]
    rfl

theorem waitVisit_more {d : Nat} {yes no : State → State} {s t : State} (h : waitVisit d yes no s = some t)
    (hy : ∀ u, u.ph = s.ph → yes (u.more ns rs as bs) = (yes u).more ns rs as bs)
    (hn : ∀ u, u.ph = s.ph → no (u.more ns rs as bs) = (no u).more ns rs as bs) :
    waitVisit d yes no (s.more ns rs as bs) = some (t.more ns rs as bs) := by
  unfold waitVisit at h ⊢
  rw [show (s.more ns rs as bs).sub = s.sub from rfl]
  split at h
  · exact askNow_more h fun _ _ _ => rfl
  · exact askNow_more h fun _ _ _ => rfl
  · refine askReady_more h fun x u hu => ?_
    cases x
    · rfl
    · exact hy u hu
  · refine askNow_more h fun x u hu => ?_
    rw [show timedOut (u.more ns rs as bs) x = timedOut u x from rfl]
    split
    · exact hn u hu
    · rfl

theorem delayVisit_more {d : Nat} {done : State → State} {s t : State} (h : delayVisit d done s = some t)
    (hd : ∀ u, u.ph = s.ph → done (u.more ns rs as bs) = (done u).more ns rs as bs) :
    delayVisit d done (s.more ns rs as bs) = some (t.more ns rs as bs) := by
  unfold delayVisit at h ⊢
  rw [show (s.more ns rs as bs).sub = s.sub from rfl]
  split at h
  · exact askNow_more h fun _ _ _ => rfl
  · exact askNow_more h fun _ _ _ => rfl
  all_goals
    refine askNow_more h fun x u hu => ?_
    rw [show timedOut (u.more ns rs as bs) x = timedOut u x from rfl]
    split
    · exact hd u hu
    · rfl

/-- `BusEnd` of a transaction that is no read keeps every answer. -/
theorem busEnd_more {s : State} (h : s.txn ≠ .reading) :
    busEnd (s.more ns rs as bs) = (busEnd s).more ns rs as bs := by
  simp [busEnd, State.more, h]
  exact ⟨rfl, rfl⟩

/-- With more answers queued a visit does the same, unless it ends a read transaction, which drops what the chip still
has to send (R47). -/
theorem tick_more {s t : State} (h : tick s = some t)
    (hb : s.ph = .wCommit ∨ s.ph = .aClose ∨ s.ph = .rClose ∨ s.ph = .kClose ∨ s.ph = .xClose → s.txn ≠ .reading) :
    tick (s.more ns rs as bs) = some (t.more ns rs as bs) := by
  unfold tick at h ⊢
  rw [show (s.more ns rs as bs).ph = s.ph from rfl]
  split at h
  all_goals rename_i hp
  case h_1 => simp at h
  -- the phases that read a byte
  all_goals try
    first
      | unfold aRead at h ⊢ | unfold rStatus at h ⊢ | unfold rPre expectByte at h ⊢ | unfold rSc1 expectByte at h ⊢
      | unfold rSc2 expectByte at h ⊢ | unfold rLen at h ⊢ | unfold rLcs at h ⊢ | unfold rTfi expectByte at h ⊢
      | unfold rEcho at h ⊢ | unfold rDcs at h ⊢ | unfold rPost at h ⊢
    refine askRead_more h fun b u hu => ?_
    try simp only [apply_ite (fun x : State => x.more ns rs as bs)]
    rfl
  -- the phases that emit a byte
  all_goals try
    first | unfold wHead at h ⊢ | unfold wHdr at h ⊢ | unfold wBody at h ⊢ | unfold wDcs at h ⊢ | unfold wPost at h ⊢
    refine emitByte_more h fun u hu => ?_
    try simp only [apply_ite (fun x : State => x.more ns rs as bs)]
    rfl
  -- the waits and delays
  all_goals try
    first | unfold aWait at h ⊢ | unfold rWait at h ⊢ | unfold gWait at h ⊢
    exact waitVisit_more h (fun u hu => rfl) fun u hu => rfl
  all_goals try
    first | unfold bLow at h ⊢ | unfold kHold at h ⊢
    exact delayVisit_more h fun u hu => rfl
  case h_27 =>
    unfold rData at h ⊢
    rw [show (s.more ns rs as bs).sub = s.sub from rfl]
    split at h
    case h_4 =>
      cases h
      simp only [apply_ite (fun x : State => x.more ns rs as bs)]
      rfl
    all_goals exact askRead_more h fun b u hu => rfl
  case h_34 =>
    unfold bSettle at h ⊢
    rw [show (s.more ns rs as bs).sub = s.sub from rfl]
    split at h
    case h_1 => cases h; rfl
    all_goals exact delayVisit_more h fun u hu => rfl
  -- the phases that ask for no answer
  all_goals
    simp only [Option.some.injEq] at h ⊢
    subst h
  case h_9 | h_13 | h_30 | h_37 | h_38 =>
    have hr := hb (by simp [hp])
    first | unfold wCommit | unfold aClose | unfold rClose | unfold kClose | unfold xClose
    rw [busEnd_more hr]
    rfl
  case h_32 =>
    unfold bInit
    rw [show (s.more ns rs as bs).sub = s.sub from rfl]
    split <;> rfl
  case h_14 =>
    unfold aEval
    rw [show (s.more ns rs as bs).ackbuf = s.ackbuf from rfl]
    split <;> rfl
  case h_2 | h_15 | h_26 =>
    first | unfold wCheck | unfold rCheck | unfold rSize
    simp only [apply_ite (fun x : State => x.more ns rs as bs)]
    rfl
  all_goals rfl

end Sys2Proof.Machine
end

