-- ==== Sys2Proof/Laws/HostPort.lean ====
section
/-! SUPPORT. What the hardware reset leaves in each field that the spec gives a value or leaves alone (R33, R180), and
that it keeps nothing of a run but what the run had done outside the registers. -/

namespace Sys2Proof.Machine

@[simp] theorem hardwareReset_cfg (s : State) : (hardwareReset s).cfg = s.cfg := rfl
@[simp] theorem hardwareReset_pendv (s : State) : (hardwareReset s).pendv = false := rfl
@[simp] theorem hardwareReset_ph (s : State) : (hardwareReset s).ph = .idle := rfl
@[simp] theorem hardwareReset_sub (s : State) : (hardwareReset s).sub = .latch := rfl
@[simp] theorem hardwareReset_xcause (s : State) : (hardwareReset s).xcause = .none := rfl
@[simp] theorem hardwareReset_busy (s : State) : (hardwareReset s).busy = false := rfl
@[simp] theorem hardwareReset_opr (s : State) : (hardwareReset s).opr = 0 := rfl
@[simp] theorem hardwareReset_hlen (s : State) : (hardwareReset s).hlen = 0 := rfl
@[simp] theorem hardwareReset_blen (s : State) : (hardwareReset s).blen = 0 := rfl
@[simp] theorem hardwareReset_maxl (s : State) : (hardwareReset s).maxl = 0 := rfl
@[simp] theorem hardwareReset_tmo (s : State) : (hardwareReset s).tmo = 0 := rfl
@[simp] theorem hardwareReset_result (s : State) : (hardwareReset s).result = .ok := rfl
@[simp] theorem hardwareReset_cause (s : State) : (hardwareReset s).cause = .none := rfl
@[simp] theorem hardwareReset_plen (s : State) : (hardwareReset s).plen = 0 := rfl
@[simp] theorem hardwareReset_rdyres (s : State) : (hardwareReset s).rdyres = false := rfl
@[simp] theorem hardwareReset_rstn (s : State) : (hardwareReset s).rstn = true := rfl
@[simp] theorem hardwareReset_hdr (s : State) : (hardwareReset s).hdr = s.hdr := rfl
@[simp] theorem hardwareReset_body (s : State) : (hardwareReset s).body = s.body := rfl
@[simp] theorem hardwareReset_rbuf (s : State) : (hardwareReset s).rbuf = s.rbuf := rfl
@[simp] theorem hardwareReset_txn (s : State) : (hardwareReset s).txn = s.txn := rfl
@[simp] theorem hardwareReset_staged (s : State) : (hardwareReset s).staged = s.staged := rfl
@[simp] theorem hardwareReset_committed (s : State) : (hardwareReset s).committed = s.committed := rfl
@[simp] theorem hardwareReset_accepts (s : State) : (hardwareReset s).accepts = s.accepts := rfl
@[simp] theorem hardwareReset_reads (s : State) : (hardwareReset s).reads = s.reads := rfl
@[simp] theorem hardwareReset_readies (s : State) : (hardwareReset s).readies = s.readies := rfl
@[simp] theorem hardwareReset_nows (s : State) : (hardwareReset s).nows = s.nows := rfl
@[simp] theorem hardwareReset_inputs (s : State) : (hardwareReset s).inputs = s.inputs := rfl
@[simp] theorem hardwareReset_rdata (s : State) : (hardwareReset s).rdata = s.rdata := rfl
@[simp] theorem hardwareReset_trace (s : State) : (hardwareReset s).trace = s.trace := rfl
@[simp] theorem hardwareReset_log (s : State) : (hardwareReset s).log = s.log := rfl

/-- After the hardware reset the engine is at rest. -/
theorem hardwareReset_rests (s : State) : tick (hardwareReset s) = none := rfl

/-- A property that landing, every visit and the reset keep holds after a reset in the middle of a run. -/
theorem cutByReset_keeps {P : State → Prop} (hl : ∀ s, P s → P (landNext s)) (ht : ∀ s t, tick s = some t → P s → P t)
    (hr : ∀ s, P s → P (hardwareReset s)) (n : Nat) {s : State} (h : P s) : P (cutByReset n s) :=
  hr _ (runVisits_keeps ht n (hl s h))

end Sys2Proof.Machine
end

