-- ==== Sys2Proof/Laws/Memory.lean ====
section
/-! SUPPORT. The laws of the byte buffers: read after write, and the canonical form that every operation keeps. -/

namespace Sys2Proof.Machine

@[simp] theorem Memory.read_nil (i : Nat) : Memory.read [] i = Memory.unlisted := rfl

theorem Memory.read_erase_same (m : Memory) (i : Nat) : Memory.read (Memory.erase m i) i = Memory.unlisted := by
  induction m with
  | nil => rfl
  | cons c m ih =>
    obtain ⟨a, b⟩ := c
    by_cases h : a = i
    · subst h; simpa [Memory.erase] using ih
    · simpa [Memory.erase, Memory.read, h] using ih

theorem Memory.read_erase_other (m : Memory) (i j : Nat) (h : j ≠ i) :
    Memory.read (Memory.erase m i) j = Memory.read m j := by
  induction m with
  | nil => rfl
  | cons c m ih =>
    obtain ⟨a, b⟩ := c
    by_cases ha : a = i
    · subst ha; simpa [Memory.erase, Memory.read, Ne.symm h] using ih
    · by_cases hj : a = j
      · subst hj; simp [Memory.erase, Memory.read, ha]
      · simpa [Memory.erase, Memory.read, ha, hj] using ih

/-- An entry for an index that no other entry has reads back, wherever it stands. -/
theorem Memory.read_insert_same (m : Memory) (i : Nat) (v : Byte) (h : ∀ c ∈ m, c.1 ≠ i) :
    Memory.read (Memory.insert m i v) i = v := by
  induction m with
  | nil => simp [Memory.insert, Memory.read]
  | cons c m ih =>
    obtain ⟨a, b⟩ := c
    have ha : a ≠ i := h (a, b) (by simp)
    by_cases hi : i < a
    · simp [Memory.insert, Memory.read, hi]
    · simpa [Memory.insert, Memory.read, hi, ha] using ih fun c hc => h c (by simp [hc])

theorem Memory.read_insert_other (m : Memory) (i j : Nat) (v : Byte) (h : j ≠ i) :
    Memory.read (Memory.insert m i v) j = Memory.read m j := by
  induction m with
  | nil => simp [Memory.insert, Memory.read, Ne.symm h]
  | cons c m ih =>
    obtain ⟨a, b⟩ := c
    by_cases hi : i < a
    · simp [Memory.insert, Memory.read, hi, Ne.symm h]
    · by_cases hj : a = j
      · subst hj; simp [Memory.insert, Memory.read, hi]
      · simpa [Memory.insert, Memory.read, hi, hj] using ih

theorem Memory.erase_ne (m : Memory) (i : Nat) : ∀ c ∈ Memory.erase m i, c.1 ≠ i := by
  intro c hc
  simpa [Memory.erase] using (List.mem_filter.1 hc).2

/-- A read after a write to the same index gives the value written. -/
@[simp] theorem Memory.read_write_same (m : Memory) (i : Nat) (v : Byte) : Memory.read (Memory.write m i v) i = v := by
  unfold Memory.write
  split
  · next h => rw [Memory.read_erase_same, h]
  · exact Memory.read_insert_same _ _ _ (Memory.erase_ne m i)

/-- A write leaves every other index alone. -/
theorem Memory.read_write_other (m : Memory) (i j : Nat) (v : Byte) (h : j ≠ i) :
    Memory.read (Memory.write m i v) j = Memory.read m j := by
  unfold Memory.write
  split
  · exact Memory.read_erase_other m i j h
  · rw [Memory.read_insert_other _ _ _ _ h, Memory.read_erase_other m i j h]

theorem Memory.wf_nil : Memory.wf [] := by simp [Memory.wf]

theorem Memory.wf_erase {m : Memory} (h : m.wf) (i : Nat) : (Memory.erase m i).wf :=
  ⟨h.1.sublist List.filter_sublist, fun c hc => h.2 c (List.mem_filter.1 hc).1⟩

theorem Memory.mem_insert {m : Memory} {i : Nat} {v : Byte} {c : Host.Cell} (h : c ∈ Memory.insert m i v) :
    c = (i, v) ∨ c ∈ m := by
  induction m with
  | nil => simpa [Memory.insert] using h
  | cons d m ih =>
    obtain ⟨a, b⟩ := d
    unfold Memory.insert at h
    split at h
    · simpa using h
    · rcases List.mem_cons.1 h with h | h
      · exact .inr (by simp [h])
      · exact (ih h).imp id fun h => by simp [h]

theorem Memory.wf_insert {m : Memory} (h : m.wf) (i : Nat) (v : Byte) (hi : i < 256) (hv : v ≠ Memory.unlisted)
    (hne : ∀ c ∈ m, c.1 ≠ i) : (Memory.insert m i v).wf := by
  refine ⟨?_, fun c hc => ?_⟩
  · induction m with
    | nil => simp [Memory.insert]
    | cons d m ih =>
      obtain ⟨a, b⟩ := d
      obtain ⟨hd, hm⟩ := List.pairwise_cons.1 h.1
      have hai : a ≠ i := hne (a, b) (by simp)
      unfold Memory.insert
      split
      · next hlt =>
        refine List.pairwise_cons.2 ⟨fun c hc => ?_, h.1⟩
        rcases List.mem_cons.1 hc with rfl | hc
        · exact hlt
        · exact lt_trans hlt (hd c hc)
      · next hlt =>
        refine List.pairwise_cons.2 ⟨fun c hc => ?_, ih ⟨hm, fun c hc => h.2 c (by simp [hc])⟩ fun c hc =>
          hne c (by simp [hc])⟩
        rcases Memory.mem_insert hc with rfl | hc
        · simp only; omega
        · exact hd c hc
  · rcases Memory.mem_insert hc with rfl | hc
    · exact ⟨hi, hv⟩
    · exact h.2 c hc

/-- A write keeps the canonical form. -/
theorem Memory.wf_write {m : Memory} (h : m.wf) (i : Nat) (v : Byte) (hi : i < 256) : (Memory.write m i v).wf := by
  unfold Memory.write
  split
  · exact Memory.wf_erase h i
  · next hv => exact Memory.wf_insert (Memory.wf_erase h i) i v hi hv (Memory.erase_ne m i)

/-- Writing a byte string keeps the canonical form as long as it stays in the index space. -/
theorem Memory.wf_writeBytes (bs : List Byte) {m : Memory} (h : m.wf) (i : Nat) (hi : i + bs.length ≤ 256) :
    (Memory.writeBytes m i bs).wf := by
  induction bs generalizing m i with
  | nil => exact h
  | cons b bs ih =>
    simp only [List.length_cons] at hi
    exact ih (Memory.wf_write h i b (by omega)) (i + 1) (by omega)

@[simp] theorem Memory.readBytes_length (m : Memory) (i n : Nat) : (Memory.readBytes m i n).length = n := by
  induction n generalizing i with
  | zero => rfl
  | succ n ih => simp [Memory.readBytes, ih]

/-- What every index reads as after a byte string has been written. -/
theorem Memory.read_writeBytes (bs : List Byte) (m : Memory) (k i : Nat) :
    Memory.read (Memory.writeBytes m k bs) i =
      if k ≤ i ∧ i < k + bs.length then bs.getD (i - k) 0 else Memory.read m i := by
  induction bs generalizing m k with
  | nil =>
    rw [if_neg (by simp only [List.length_nil]; omega)]
    rfl
  | cons b bs ih =>
    simp only [Memory.writeBytes, ih, List.length_cons]
    by_cases h : i = k
    · subst h; simp
    · rw [Memory.read_write_other _ _ _ _ h]
      by_cases h1 : k + 1 ≤ i ∧ i < k + 1 + bs.length
      · rw [if_pos h1, if_pos (by omega), show i - k = i - (k + 1) + 1 by omega]; rfl
      · rw [if_neg h1, if_neg (by omega)]

/-- A byte string is what is read from index `k` up exactly when each of its bytes is what its index reads as. -/
theorem Memory.readBytes_eq_iff (bs : List Byte) (m : Memory) (k : Nat) :
    Memory.readBytes m k bs.length = bs ↔ ∀ j, j < bs.length → Memory.read m (k + j) = bs.getD j 0 := by
  induction bs generalizing k with
  | nil => simp [Memory.readBytes]
  | cons b bs ih =>
    simp only [List.length_cons, Memory.readBytes, List.cons.injEq, ih]
    constructor
    · rintro ⟨h0, h⟩ j hj
      cases j with
      | zero => simpa using h0
      | succ j => simpa [Nat.add_assoc, Nat.add_comm 1] using h j (by omega)
    · intro h
      exact ⟨by simpa using h 0 (by omega), fun j hj => by
        simpa [Nat.add_assoc, Nat.add_comm 1] using h (j + 1) (by omega)⟩

end Sys2Proof.Machine
end

