-- ==== Sys2Proof/Laws/Operands.lean ====
section
/-! SUPPORT. What no visit changes: the configuration, the operand latches, the command buffers and the host's queue. -/

namespace Sys2Proof.Machine

/-- Two states agree on the configuration, the latches of R23, `HDR` and `BODY`, and the host's queue. -/
structure SameOperands (s t : State) : Prop where
  cfg : t.cfg = s.cfg
  opr : t.opr = s.opr
  hlen : t.hlen = s.hlen
  blen : t.blen = s.blen
  maxl : t.maxl = s.maxl
  tmo : t.tmo = s.tmo
  hdr : t.hdr = s.hdr
  body : t.body = s.body
  inputs : t.inputs = s.inputs
  rdata : t.rdata = s.rdata

theorem SameOperands.same (s : State) : SameOperands s s := ⟨rfl, rfl, rfl, rfl, rfl, rfl, rfl, rfl, rfl, rfl⟩

theorem SameOperands.after {s t u : State} (k : SameOperands t u) (h : SameOperands s t) : SameOperands s u :=
  ⟨k.cfg.trans h.cfg, k.opr.trans h.opr, k.hlen.trans h.hlen, k.blen.trans h.blen, k.maxl.trans h.maxl,
    k.tmo.trans h.tmo, k.hdr.trans h.hdr, k.body.trans h.body, k.inputs.trans h.inputs, k.rdata.trans h.rdata⟩

theorem same_abort (k : Cause) (s : State) : SameOperands s (abort k s) :=
  ⟨rfl, rfl, rfl, rfl, rfl, rfl, rfl, rfl, rfl, rfl⟩

theorem same_complete (s : State) : SameOperands s (complete s) := same_abort _ s

theorem same_abortTxn (k : Cause) (s : State) : SameOperands s (abortTxn k s) :=
  ⟨rfl, rfl, rfl, rfl, rfl, rfl, rfl, rfl, rfl, rfl⟩

theorem same_waitVisit {d : Nat} {yes no : State → State} {s t : State} (h : waitVisit d yes no s = some t)
    (hy : ∀ u, SameOperands u (yes u)) (hn : ∀ u, SameOperands u (no u)) : SameOperands s t := by
  rcases waitVisit_cases h with ⟨x, xs, hs, hx, rfl⟩ | ⟨r, rs, hs, hx, rfl⟩ | ⟨x, xs, hs, hx, rfl⟩
  · exact ⟨rfl, rfl, rfl, rfl, rfl, rfl, rfl, rfl, rfl, rfl⟩
  · split
    · exact (hy _).after ⟨rfl, rfl, rfl, rfl, rfl, rfl, rfl, rfl, rfl, rfl⟩
    · exact ⟨rfl, rfl, rfl, rfl, rfl, rfl, rfl, rfl, rfl, rfl⟩
  · split
    · exact (hn _).after ⟨rfl, rfl, rfl, rfl, rfl, rfl, rfl, rfl, rfl, rfl⟩
    · exact ⟨rfl, rfl, rfl, rfl, rfl, rfl, rfl, rfl, rfl, rfl⟩

theorem same_delayVisit {d : Nat} {done : State → State} {s t : State} (h : delayVisit d done s = some t)
    (hd : ∀ u, SameOperands u (done u)) : SameOperands s t := by
  rcases delayVisit_cases h with ⟨x, xs, hs, hx, rfl⟩ | ⟨x, xs, hs, hx, rfl⟩
  · exact ⟨rfl, rfl, rfl, rfl, rfl, rfl, rfl, rfl, rfl, rfl⟩
  · split
    · exact (hd _).after ⟨rfl, rfl, rfl, rfl, rfl, rfl, rfl, rfl, rfl, rfl⟩
    · exact ⟨rfl, rfl, rfl, rfl, rfl, rfl, rfl, rfl, rfl, rfl⟩

theorem same_emitByte {b : Byte} {k : State → State} {s t : State} (h : emitByte b k s = some t)
    (hk : ∀ u, SameOperands u (k u)) : SameOperands s t := by
  rcases emitByte_cases h with ⟨as, ha, rfl⟩ | ⟨as, ha, rfl⟩
  · exact (hk _).after ⟨rfl, rfl, rfl, rfl, rfl, rfl, rfl, rfl, rfl, rfl⟩
  · exact (same_abort _ _).after ⟨rfl, rfl, rfl, rfl, rfl, rfl, rfl, rfl, rfl, rfl⟩

theorem same_askRead {k : Byte → State → State} {s t : State} (h : askRead k s = some t)
    (hk : ∀ b u, SameOperands u (k b u)) : SameOperands s t := by
  obtain ⟨b, bs, hb, rfl⟩ := askRead_cases h
  exact (hk _ _).after ⟨rfl, rfl, rfl, rfl, rfl, rfl, rfl, rfl, rfl, rfl⟩

/-- No visit changes the operands. -/
theorem tick_sameOperands {s t : State} (h : tick s = some t) : SameOperands s t := by
  unfold tick at h
  split at h
  case h_1 => simp at h
  -- the phases that read a byte
  all_goals try
    first
      | unfold aRead at h | unfold rStatus at h | unfold rPre expectByte at h | unfold rSc1 expectByte at h
      | unfold rSc2 expectByte at h | unfold rLen at h | unfold rLcs at h | unfold rTfi expectByte at h
      | unfold rEcho at h | unfold rDcs at h | unfold rPost at h
    refine same_askRead h fun b u => ?_
    try dsimp only
    repeat' split
    all_goals exact ⟨rfl, rfl, rfl, rfl, rfl, rfl, rfl, rfl, rfl, rfl⟩
  -- the phases that emit a byte
  all_goals try
    first | unfold wHead at h | unfold wHdr at h | unfold wBody at h | unfold wDcs at h | unfold wPost at h
    refine same_emitByte h fun u => ?_
    try dsimp only
    repeat' split
    all_goals exact ⟨rfl, rfl, rfl, rfl, rfl, rfl, rfl, rfl, rfl, rfl⟩
  -- the waits and delays
  all_goals try
    first | unfold aWait at h | unfold rWait at h | unfold gWait at h
    refine same_waitVisit h (fun u => ?_) fun u => ?_
    all_goals exact ⟨rfl, rfl, rfl, rfl, rfl, rfl, rfl, rfl, rfl, rfl⟩
  all_goals try
    first | unfold bLow at h | unfold kHold at h
    refine same_delayVisit h fun u => ?_
    exact ⟨rfl, rfl, rfl, rfl, rfl, rfl, rfl, rfl, rfl, rfl⟩
  case h_27 =>
    unfold rData at h
    split at h
    case h_4 =>
      cases h
      dsimp only
      split <;> exact ⟨rfl, rfl, rfl, rfl, rfl, rfl, rfl, rfl, rfl, rfl⟩
    all_goals exact same_askRead h fun b u => ⟨rfl, rfl, rfl, rfl, rfl, rfl, rfl, rfl, rfl, rfl⟩
  case h_34 =>
    unfold bSettle at h
    split at h
    case h_1 => cases h; exact ⟨rfl, rfl, rfl, rfl, rfl, rfl, rfl, rfl, rfl, rfl⟩
    all_goals exact same_delayVisit h same_complete
  -- the phases that ask for no answer
  all_goals
    simp only [Option.some.injEq] at h
    subst h
    first | unfold wCheck | unfold aEval | unfold rCheck | unfold rSize | unfold bInit | skip
    try dsimp only
    repeat' split
    all_goals exact ⟨rfl, rfl, rfl, rfl, rfl, rfl, rfl, rfl, rfl, rfl⟩

/-- A run changes none of them either. -/
theorem resume_sameOperands (s : State) : SameOperands s (resume s) :=
  resume_keeps (P := SameOperands s) (fun _ _ h k => (tick_sameOperands h).after k) (SameOperands.same s)

end Sys2Proof.Machine
end

