-- ==== Sys2Proof/Laws/PerInstr.lean ====
section
/-! SUPPORT. The statements made per instruction: family `EncodedSize`, the number of bytes of an encoding (R60 to
R65, R75). -/

namespace Sys2Proof.Laws.EncodedSize

/-- How many bytes the bus carries for an instruction: none for an operation-select code, 6 for the ACK frame, 1 for a
status byte, `LEN + 7` for a frame. -/
def bytesOf : Instr → Nat
  | .begin | .wake | .writeCommand | .readResponse | .waitReady | .reserved5 | .reserved6 | .reserved7 => 0
  | .cmdFrame len _ _ | .rspFrame len _ _ => len.toNat + 7
  | .ackFrame => 6
  | .statusByte _ => 1

/-- The encoding of a well-formed instruction has the size of its row. -/
def Statement (i : Instr) : Prop := i.wf = true → (wireBytes i).length = bytesOf i

theorem begin : Statement .begin := fun _ => rfl
theorem wake : Statement .wake := fun _ => rfl
theorem writeCommand : Statement .writeCommand := fun _ => rfl
theorem readResponse : Statement .readResponse := fun _ => rfl
theorem waitReady : Statement .waitReady := fun _ => rfl
theorem reserved5 : Statement .reserved5 := fun _ => rfl
theorem reserved6 : Statement .reserved6 := fun _ => rfl
theorem reserved7 : Statement .reserved7 := fun _ => rfl

theorem cmdFrame (len lcs : Byte) (rest : List Byte) : Statement (.cmdFrame len lcs rest) := by
  intro h
  have hl : rest.length = len.toNat + 1 := by simpa [Instr.wf] using h
  simp [wireBytes, encode, frameHead, bytesOf, hl]

theorem rspFrame (len lcs : Byte) (rest : List Byte) : Statement (.rspFrame len lcs rest) := by
  intro h
  have hl : rest.length = len.toNat + 1 := by simpa [Instr.wf] using h
  simp [wireBytes, encode, frameHead, bytesOf, hl]

theorem ackFrame : Statement .ackFrame := fun _ => rfl
theorem statusByte (ignored : BitVec 7) : Statement (.statusByte ignored) := fun _ => rfl

end Sys2Proof.Laws.EncodedSize
end

