-- ==== Sys2Proof/Laws/Visits.lean ====
section
/-! SUPPORT. Every visit uses up something of the bound `visitsLeft`, so a run comes to rest. -/

namespace Sys2Proof.Machine

theorem busEnd_reads_length (s : State) : (busEnd s).reads.length ≤ s.reads.length := by
  rw [busEnd_reads]; split <;> simp

theorem waitVisit_visitsLeft {d : Nat} {yes no : State → State} {s t : State} (h : waitVisit d yes no s = some t)
    (hsub : ∀ x, x ≠ .entry → phaseRank s.ph x ≤ phaseRank s.ph s.sub)
    (hy : ∀ u, u.ph = s.ph → u.sub = s.sub → visitsLeft (yes u) ≤ visitsLeft u)
    (hn : ∀ u, u.ph = s.ph → u.sub = s.sub → visitsLeft (no u) ≤ visitsLeft u) : visitsLeft t < visitsLeft s := by
  rcases waitVisit_cases h with ⟨x, xs, hs, hx, rfl⟩ | ⟨r, rs, hs, hx, rfl⟩ | ⟨x, xs, hs, hx, rfl⟩
  · have h1 := hsub .ready (by simp)
    simp only [visitsLeft, hx, List.length_cons]; omega
  · have h1 := hsub .clock (by simp)
    have h2 := hy { s with readies := rs, trace := s.trace ++ [.ready r] } rfl rfl
    cases r <;> simp only [visitsLeft, hx, List.length_cons, if_true, Bool.false_eq_true, if_false] at h2 ⊢ <;> omega
  · have h1 := hsub .ready (by simp)
    have h2 := hn { s with nows := xs, trace := s.trace ++ [.now (clockValue s.cfg x)] } rfl rfl
    split <;> simp only [visitsLeft, hx, List.length_cons] at h2 ⊢ <;> omega

theorem delayVisit_visitsLeft {d : Nat} {done : State → State} {s t : State} (h : delayVisit d done s = some t)
    (hsub : ∀ x, x ≠ .entry → phaseRank s.ph x ≤ phaseRank s.ph s.sub)
    (hd : ∀ u, u.ph = s.ph → u.sub = s.sub → visitsLeft (done u) ≤ visitsLeft u) : visitsLeft t < visitsLeft s := by
  have h1 := hsub .clock (by simp)
  rcases delayVisit_cases h with ⟨x, xs, hs, hx, rfl⟩ | ⟨x, xs, hs, hx, rfl⟩
  · simp only [visitsLeft, hx, List.length_cons]; omega
  · have h2 := hd { s with nows := xs, trace := s.trace ++ [.now (clockValue s.cfg x)] } rfl rfl
    split <;> simp only [visitsLeft, hx, List.length_cons] at h2 ⊢ <;> omega

theorem emitByte_visitsLeft {b : Byte} {k : State → State} {s t : State} (h : emitByte b k s = some t)
    (hk : ∀ u, u.ph = s.ph → u.sub = s.sub → visitsLeft (k u) ≤ visitsLeft u) : visitsLeft t < visitsLeft s := by
  rcases emitByte_cases h with ⟨as, ha, rfl⟩ | ⟨as, ha, rfl⟩
  · have h2 := hk (logEmitted b true
      { s with accepts := as, txn := .writing, staged := s.staged ++ [b], trace := s.trace ++ [.busWrite b true] })
      (by simp) (by simp)
    simp [visitsLeft, ha] at h2 ⊢; omega
  · simp [visitsLeft, ha, phaseRank]; omega

theorem askRead_visitsLeft {k : Byte → State → State} {s t : State} (h : askRead k s = some t)
    (hk : ∀ b u, u.ph = s.ph → u.sub = s.sub → visitsLeft (k b u) ≤ visitsLeft u) : visitsLeft t < visitsLeft s := by
  obtain ⟨b, bs, hb, rfl⟩ := askRead_cases h
  have h2 := hk b { s with reads := bs, txn := .reading, trace := s.trace ++ [.busRead b] } rfl rfl
  simp only [visitsLeft, hb, List.length_cons] at h2 ⊢; omega

/-- Every visit takes an answer or moves to a later phase. -/
theorem tick_visitsLeft {s t : State} (h : tick s = some t) : visitsLeft t < visitsLeft s := by
  unfold tick at h
  split at h
  all_goals rename_i hp
  case h_32 =>
    simp only [Option.some.injEq] at h
    subst h
    unfold bInit
    split <;> rename_i hs <;> simp [visitsLeft, hp, hs, phaseRank]
  -- the phases that ask for no answer
  all_goals try
    simp only [Option.some.injEq] at h
    subst h
    first
      | unfold wCheck | unfold aEval | unfold rCheck | unfold rSize
      | skip
    try simp only [apply_ite visitsLeft]
    have hr := busEnd_reads_length s
    repeat' split
    all_goals
      simp [visitsLeft, hp, phaseRank, wOpen, wCommit, aOpen, aClose, rOpen, kOpen, kClose, xClose, rClose] at hr ⊢
    all_goals (try split)
    all_goals (try simp)
    all_goals (try omega)
  case h_1 => simp at h
  -- the phases that read a byte
  all_goals try
    first
      | unfold aRead at h | unfold rStatus at h | unfold rPre expectByte at h | unfold rSc1 expectByte at h
      | unfold rSc2 expectByte at h | unfold rLen at h | unfold rLcs at h | unfold rTfi expectByte at h
      | unfold rEcho at h | unfold rDcs at h | unfold rPost at h
    refine askRead_visitsLeft h fun b u hu hs => ?_
    rw [hp] at hu
    try simp only [apply_ite visitsLeft]
    repeat' split
    all_goals simp [visitsLeft, hu, phaseRank, abortTxn]
  -- the phases that emit a byte
  all_goals try
    first | unfold wHead at h | unfold wHdr at h | unfold wBody at h | unfold wDcs at h | unfold wPost at h
    refine emitByte_visitsLeft h fun u hu hs => ?_
    rw [hp] at hu
    try simp only [apply_ite visitsLeft]
    repeat' split
    all_goals simp [visitsLeft, hu, phaseRank]
  -- the readiness waits
  all_goals try
    (first | unfold aWait at h | unfold rWait at h | unfold gWait at h)
    refine waitVisit_visitsLeft h (fun x hx => by simp [hp, phaseRank]) (fun u hu hs => ?_) fun u hu hs => ?_
    all_goals rw [hp] at hu
    all_goals simp [visitsLeft, hu, phaseRank]
  -- the delays
  all_goals try
    (first | unfold bLow at h | unfold kHold at h)
    refine delayVisit_visitsLeft h (fun x hx => by simp [hp, phaseRank]) fun u hu hs => ?_
    rw [hp] at hu
    simp [visitsLeft, hu, phaseRank]
  case h_27 =>
    unfold rData at h
    split at h
    case h_4 hs =>
      simp only [Option.some.injEq] at h
      subst h
      simp only [apply_ite visitsLeft]
      split <;> simp [visitsLeft, hp, hs, phaseRank]
    all_goals
      rename_i hs
      obtain ⟨b, bs, hb, rfl⟩ := askRead_cases h
      simp [visitsLeft, hp, hs, hb, phaseRank]
      omega
  unfold bSettle at h
  split at h
  case h_1 hs => simp only [Option.some.injEq] at h; subst h; simp [visitsLeft, hp, hs, phaseRank]
  all_goals
    rename_i hs
    refine delayVisit_visitsLeft h (fun x hx => by simp [hp, hs, hx, phaseRank]) fun u hu _ => ?_
    simp [visitsLeft, phaseRank]

/-- Within the bound, a run comes to rest. -/
theorem runVisits_rests {n : Nat} {s : State} (h : visitsLeft s ≤ n) : tick (runVisits n s) = none := by
  induction n generalizing s with
  | zero =>
    rcases ht : tick s with _ | t
    · exact ht
    · have := tick_visitsLeft ht; omega
  | succ n ih =>
    rcases ht : tick s with _ | t
    · simp [runVisits, ht]
    · have := tick_visitsLeft ht
      simpa [runVisits, ht] using ih (s := t) (by omega)

theorem resume_rests (s : State) : tick (resume s) = none := runVisits_rests (Nat.le_refl _)

/-- More visits than the bound change nothing. -/
theorem runVisits_eq {n m : Nat} {s : State} (hn : visitsLeft s ≤ n) (hm : visitsLeft s ≤ m) :
    runVisits n s = runVisits m s := by
  induction n generalizing s m with
  | zero =>
    rcases ht : tick s with _ | t
    · rw [runVisits_of_rest ht, runVisits_of_rest ht]
    · have := tick_visitsLeft ht; omega
  | succ n ih =>
    rcases ht : tick s with _ | t
    · rw [runVisits_of_rest ht, runVisits_of_rest ht]
    · have hlt := tick_visitsLeft ht
      obtain ⟨m, rfl⟩ : ∃ k, m = k + 1 := ⟨m - 1, by omega⟩
      simp only [runVisits, ht]
      exact ih (by omega) (by omega)

/-- A run goes on from the state after its first visit. -/
theorem resume_of_tick {s t : State} (h : tick s = some t) : resume s = resume t := by
  have hlt := tick_visitsLeft h
  obtain ⟨n, hn⟩ : ∃ n, visitsLeft s = n + 1 := ⟨visitsLeft s - 1, by omega⟩
  have ht : resume t = runVisits n t := runVisits_eq (Nat.le_refl _) (by omega)
  simp [resume, hn, runVisits, h, ← ht]

end Sys2Proof.Machine
end

