-- ==== Sys2Proof/Tests/Slice0.lean ====
section
/-! SUPPORT. Tests: ill-formed terms refused, words written out from the spec decoded, single steps whose results come
from the vectors of spec/95_test_vectors.md, and a witness for every statement that has hypotheses. -/

namespace Sys2Proof.Tests

open Sys2Proof Sys2Proof.Machine

/-! ## Helpers -/

/-- The parameters of spec/95_test_vectors.md; `ADDR` is any address. -/
def params : Params :=
  { addr := 0x24, maxlen := 32, acktmo := 10, rsptmo := 1000, clkw := 32, postamble := 0x00, tRstLow := 400
    tRstSettle := 100, tWakeHold := 1 }

/-- The reset state with these parameters. -/
def start : State := { State.reset with cfg := params }

/-- The outcome is a next state of which `p` holds. -/
def nextHas (o : Host.Outcome State Fault Refusal) (p : State → Bool) : Bool :=
  match o with
  | .next t => p t
  | .fault _ | .refused _ => false

/-- The next state is idle with this result and cause. -/
def ended (o : Host.Outcome State Fault Refusal) (r : ResultCode) (k : Cause) : Bool :=
  nextHas o fun t => !t.busy && t.result == r && t.cause == k

/-- The reads of an ACK (ACK7). -/
def ack7 : List Byte := [0x01, 0x00, 0x00, 0xFF, 0x00, 0xFF, 0x00]

/-- The response of V3.1-a. -/
def responseA : List Byte := [0x01, 0x00, 0x00, 0xFF, 0x06, 0xFA, 0xD5, 0x03, 0x32, 0x01, 0x06, 0x07, 0xE8, 0x00]

/-- V2.3-a, with its answers (P1 line 3). -/
def writing : State :=
  { start with
    hdr := [(0, 0x02)], hlen := 1, accepts := List.replicate 9 true, nows := [510], readies := [true], reads := ack7 }

/-- The operands of V2.3-h, `LEN = MAXLEN`. -/
def longest : State := { start with hdr := [(0, 0x40), (1, 0x01)], hlen := 2, blen := 29 }

/-- V3.1-a, with its answers. -/
def reading : State :=
  { start with
    pendv := true, pendcmd := 0x02, maxl := 16, tmo := 1000, nows := [0], readies := [true], reads := responseA }

/-- The engine in a phase of READ_RESPONSE, inside its read transaction. -/
def inRead (ph : Phase) (bytes : List Byte) : State :=
  { start with
    pendv := true, pendcmd := 0x02, maxl := 16, busy := true, opr := 3, txn := .reading, ph := ph, reads := bytes }

/-- The engine about to emit the frame of V2.3-a. -/
def emitting : State :=
  { start with hdr := [(0, 0x02)], hlen := 1, lenr := 2, busy := true, opr := 2, txn := .opened, ph := .wHead }

/-- The engine inside the read transaction of ACK_CHECK. -/
def inAck (i : Byte) : State := { start with busy := true, opr := 2, txn := .reading, ph := .aRead, idx := i }

/-! ## Ill-formed terms are refused -/

theorem test_wf_refuses_short_command_frame : Instr.wf (.cmdFrame 0x02 0xFE [0x02, 0x2A]) = false := by decide
theorem test_wf_refuses_long_response_frame : Instr.wf (.rspFrame 0x02 0xFE [0x15, 0x16, 0x00, 0x00]) = false := by
  decide
theorem test_wf_accepts_command_frame : Instr.wf (.cmdFrame 0x02 0xFE [0x02, 0x2A, 0x00]) = true := by decide
theorem test_sound_refuses_wrong_lcs : Instr.sound 32 0 (.cmdFrame 0x02 0xFF [0x02, 0x2A, 0x00]) = false := by decide
theorem test_sound_refuses_wrong_dcs : Instr.sound 32 0 (.cmdFrame 0x02 0xFE [0x02, 0x2B, 0x00]) = false := by decide
theorem test_sound_refuses_short_len : Instr.sound 32 0 (.cmdFrame 0x01 0xFF [0x2C, 0x00]) = false := by decide
theorem test_sound_refuses_long_len : Instr.sound 1 0 (.cmdFrame 0x02 0xFE [0x02, 0x2A, 0x00]) = false := by decide
theorem test_sound_refuses_postamble : Instr.sound 32 0 (.cmdFrame 0x02 0xFE [0x02, 0x2A, 0x01]) = false := by decide
theorem test_sound_accepts_vector : Instr.sound 32 0 (.cmdFrame 0x02 0xFE [0x02, 0x2A, 0x00]) = true := by decide
theorem test_sound_response : Instr.sound 32 0 (.rspFrame 0x02 0xFE [0x15, 0x16, 0xFF]) = true ∧
    Instr.sound 32 0 (.rspFrame 0x02 0xFE [0x15, 0x17, 0xFF]) = false := by decide
theorem test_params_wf : params.wf := by decide
theorem test_params_refuses_zero_maxlen : ¬ ({ params with maxlen := 0 } : Params).wf := by decide

/-! ## Decoding: one word for every row, written out from R60, R62 to R65 and R73 -/

theorem test_decode_begin : decode (.opsel 0b000#3) = .ok .begin := by decide
theorem test_decode_wake : decode (.opsel 0b001#3) = .ok .wake := by decide
theorem test_decode_writeCommand : decode (.opsel 0b010#3) = .ok .writeCommand := by decide
theorem test_decode_readResponse : decode (.opsel 0b011#3) = .ok .readResponse := by decide
theorem test_decode_waitReady : decode (.opsel 0b100#3) = .ok .waitReady := by decide
theorem test_decode_reserved5 : decode (.opsel 0b101#3) = .ok .reserved5 := by decide
theorem test_decode_reserved6 : decode (.opsel 0b110#3) = .ok .reserved6 := by decide
theorem test_decode_reserved7 : decode (.opsel 0b111#3) = .ok .reserved7 := by decide
theorem test_decode_cmdFrame :
    decode (.wire [0b00000000, 0b00000000, 0b11111111, 0b00000010, 0b11111110, 0b11010100, 0x02, 0x2A, 0x00]) =
      .ok (.cmdFrame 0x02 0xFE [0x02, 0x2A, 0x00]) := by decide
theorem test_decode_rspFrame :
    decode (.wire [0b00000000, 0b00000000, 0b11111111, 0b00000010, 0b11111110, 0b11010101, 0x15, 0x16, 0x00]) =
      .ok (.rspFrame 0x02 0xFE [0x15, 0x16, 0x00]) := by decide
theorem test_decode_ackFrame :
    decode (.wire [0b00000000, 0b00000000, 0b11111111, 0b00000000, 0b11111111, 0b00000000]) = .ok .ackFrame := by decide
theorem test_decode_statusByte : decode (.wire [0b10000001]) = .ok (.statusByte 0b1000000#7) := by decide

theorem test_decode_rejects_by_name :
    decode (.wire []) = .error .noBytes ∧ decode (.wire [0x80]) = .error .statusNotReady ∧
    decode (.wire [0x00, 0x00, 0xFF]) = .error .truncated ∧
    decode (.wire [0x01, 0x00, 0xFF, 0x00, 0xFF, 0xD4]) = .error .badPreamble ∧
    decode (.wire [0x00, 0x01, 0xFF, 0x00, 0xFF, 0xD4]) = .error .badStartCode1 ∧
    decode (.wire [0x00, 0x00, 0xFE, 0x00, 0xFF, 0xD4]) = .error .badStartCode2 ∧
    decode (.wire [0x00, 0x00, 0xFF, 0x01, 0xFF, 0x7F]) = .error .badTfi ∧
    decode (.wire [0x00, 0x00, 0xFF, 0x00, 0x00, 0xD5]) = .error .truncated ∧
    decode (.wire [0x00, 0x00, 0xFF, 0x00, 0x00, 0xD5, 0x00, 0x00]) = .error .trailingBytes := by decide

/-- Words as the opcode table writes them, first byte most significant (R72). -/
theorem test_decode_table_words :
    decodeTableWord 8 0x02 = some .writeCommand ∧ decodeTableWord 48 0x0000FF00FF00 = some .ackFrame ∧
    decodeTableWord 48 0x0000FF0000D4 = some (.cmdFrame 0x00 0x00 [0x00]) ∧
    decodeTableWord 48 0x0000FF02FED5 = some (.rspFrame 0x02 0xFE [0x00, 0x00, 0x00]) ∧
    decodeTableWord 8 0x81 = some (.statusByte 0b1000000#7) ∧ decodeTableWord 48 0x0000FE0000D4 = none := by decide

/-- `step` runs the instruction that `withFetchWord` places. -/
theorem test_withFetchWord :
    (nextHas (step (start.withFetchWord 8 0x00)) fun t => t.ph == .bLow && t.trace == [.busInit, .rstLine false]) = true ∧
    ended (step (start.withFetchWord 8 0x03)) .invalidFrame .noPending = true ∧
    (nextHas (step (start.withFetchWord 48 0x0000FF00FF00)) fun t => t.reads == ackFrameBytes) = true := by decide

/-! ## The calculator: 95_test_vectors.md section 2.1 -/

theorem test_lcsGen : [0x00, 0x01, 0x05, 0x13, 0x20, 0x7F, 0x80, 0x81, 0xFE].map lcsGen =
    [0x00, 0xFF, 0xFB, 0xED, 0xE0, 0x81, 0x80, 0x7F, 0x02] := by decide
theorem test_sum : sumBytes 0xD4 [0x40, 0x01, 0xA0, 0x05, 0x01, 0x02, 0x03, 0x04] = 0xC4 ∧ dcsGen 0xC4 = 0x3C := by
  decide
/-- V2.5-f: 250 to 4 is 10 modulo 256; the row below it in time, 3, is 9. -/
theorem test_elapsed_wraps :
    elapsed { params with clkw := 8 } 4 250 = 10 ∧ elapsed { params with clkw := 8 } 3 250 = 9 := by decide

/-! ## The instructions, one step each -/

/-- V2.2-a. -/
theorem test_begin :
    (nextHas (exec .begin { start with nows := [0, 400, 400, 500] }) fun t =>
      !t.busy && t.result == .ok && t.trace ==
        [.busInit, .rstLine false, .now 0, .now 400, .rstLine true, .now 400, .now 500]) = true := by decide
/-- V2.2-b: 300 - 7 is not enough. -/
theorem test_begin_clears_record :
    (nextHas (exec .begin
        { start with pendv := true, pendcmd := 0x14, rdyres := true, nows := [7, 100, 300, 407, 407, 600] }) fun t =>
      !t.busy && !t.pendv && !t.rdyres && t.nows == []) = true := by decide

/-- V2.2-e, with the record of V2.2-d. -/
theorem test_wake :
    (nextHas (exec .wake { start with pendv := true, pendcmd := 0x02, nows := [7, 7, 7, 8] }) fun t =>
      t.result == .ok && t.pendv && t.pendcmd == 0x02 && t.trace ==
        [.busBegin 0x24, .now 7, .now 7, .now 7, .now 8, .busEnd]) = true := by decide

/-- V2.3-a. -/
theorem test_writeCommand :
    (nextHas (exec .writeCommand writing) fun t =>
      !t.busy && t.result == .ok && t.pendcmd == 0x02 &&
        t.committed == [[0x00, 0x00, 0xFF, 0x02, 0xFE, 0xD4, 0x02, 0x2A, 0x00]]) = true := by decide
/-- V2.3-k: the sixth byte is rejected. -/
theorem test_writeCommand_rejected :
    (nextHas (exec .writeCommand { writing with accepts := [true, true, true, true, true, false] }) fun t =>
      t.cause == .writeRejected && t.committed == [] && t.pendcmd == 0x02 && t.trace ==
        [.busBegin 0x24, .busWrite 0x00 true, .busWrite 0x00 true, .busWrite 0xFF true, .busWrite 0x02 true,
          .busWrite 0xFE true, .busWrite 0xD4 false]) = true := by decide

/-- V3.1-a. -/
theorem test_readResponse :
    (nextHas (exec .readResponse reading) fun t =>
      !t.busy && t.result == .ok && t.plen == 4 && t.rbuf == [(0, 0x32), (1, 0x01), (2, 0x06), (3, 0x07)] &&
        t.trace.length == 18) = true := by decide
/-- V3.3-c: `MAXL = 3`. -/
theorem test_readResponse_noSpace :
    (nextHas (exec .readResponse { reading with maxl := 3 }) fun t =>
      t.result == .noSpace && t.cause == .noSpace && t.plen == 4 && t.rbuf == [] && t.trace.length == 12) = true := by
  decide

/-- V2.5-d. -/
theorem test_waitReady :
    (nextHas (exec .waitReady { start with tmo := 10, nows := [100, 100, 104], readies := [false, false, true] }) fun t =>
      t.result == .ok && t.rdyres && t.trace ==
        [.now 100, .ready false, .now 100, .ready false, .now 104, .ready true]) = true := by decide
/-- V2.5-f, `CLKW = 8`. -/
theorem test_waitReady_wraps :
    (nextHas (exec .waitReady
        { start with
          cfg := { params with clkw := 8 }, tmo := 10, nows := [250, 255, 3, 4], readies := [false, false, false] })
      fun t => !t.busy && t.result == .ok && !t.rdyres && t.nows == []) = true := by decide

/-- R73. -/
theorem test_reserved :
    [Instr.reserved5, .reserved6, .reserved7].all (fun i =>
      nextHas (exec i { start with plen := 4, pendv := true }) fun t =>
        !t.busy && t.result == .invalidFrame && t.cause == .illegalOp && t.plen == 0 && t.pendv && t.trace == []) =
      true := by decide

/-- The frame of V2.3-a crosses the bus. -/
theorem test_cmdFrame :
    (nextHas (exec (.cmdFrame 0x02 0xFE [0x02, 0x2A, 0x00]) emitting) fun t =>
      t.ph == .aWait && t.committed == [[0x00, 0x00, 0xFF, 0x02, 0xFE, 0xD4, 0x02, 0x2A, 0x00]]) = true := by decide
/-- V3.4-e: a command frame read back. -/
theorem test_cmdFrame_read_back :
    ended (exec (.cmdFrame 0x02 0xFE [0x02, 0x2A, 0x00]) (inRead .rPre [])) .invalidFrame .badTfi = true := by decide

/-- V3.1-b: an empty payload. -/
theorem test_rspFrame :
    (nextHas (exec (.rspFrame 0x02 0xFE [0x15, 0x16, 0x00]) { inRead .rPre [] with pendcmd := 0x14, maxl := 0 }) fun t =>
      !t.busy && t.result == .ok && t.plen == 0 && t.rbuf == []) = true := by decide
/-- V3.2-j: no echo matches `PENDCMD = FF`. -/
theorem test_rspFrame_pendcmd_ff :
    ended (exec (.rspFrame 0x02 0xFE [0x00, 0x2B, 0x00]) { inRead .rPre [] with pendcmd := 0xFF }) .invalidFrame .badEcho =
      true := by decide

/-- V2.4-a. -/
theorem test_ackFrame :
    ended (exec .ackFrame { inAck 1 with ackbuf := #v[0x01, 0, 0, 0, 0, 0, 0] }) .ok .none = true := by decide
/-- V3.4-a: an ACK where a response is expected. -/
theorem test_ackFrame_as_response : ended (exec .ackFrame (inRead .rPre [])) .invalidFrame .badLcs = true := by decide

/-- R65: a status byte of 0x81. -/
theorem test_statusByte :
    (nextHas (exec (.statusByte 0b1000000#7) (inRead .rStatus [])) fun t => t.ph == .rPre && t.st == 0x81) = true := by
  decide

/-! ## The host's interface -/

/-- R30: bits above a register's width are ignored; R184: a write while busy is ignored. -/
theorem test_writeLatch :
    (nextHas (step { start with inputs := [.writeReg .hlen 0x1FF] }) fun t => t.hlen == 0xFF) = true ∧
    (nextHas (step { emitting with inputs := [.writeReg .hlen 7] }) fun t => t.hlen == 1) = true := by decide

/-- R180: the reset lands inside an operation. -/
theorem test_hwReset :
    (nextHas (step { inRead .rLen [] with rstn := false, inputs := [.hwReset] }) fun t =>
      t.ph == .idle && !t.busy && !t.pendv && t.rstn && t.txn == .reading) = true := by decide

/-- R180, D1: the reset falls after the POSTAMBLE has been accepted and before the `BusEnd` of W_COMMIT: all nine bytes
are staged and none goes out. The eleventh visit of V2.3-a is the ninth byte. -/
theorem test_hwReset_before_commit :
    (nextHas (step { writing with inputs := [.hwResetWithin 11, .writeReg .opr 2] }) fun t =>
      t.ph == .idle && !t.busy && !t.pendv && t.hlen == 0 && t.inputs == [] && t.txn == .writing && t.committed == [] &&
        t.staged == [0x00, 0x00, 0xFF, 0x02, 0xFE, 0xD4, 0x02, 0x2A, 0x00] && t.reads == ack7) = true := by decide
/-- The reset falls between a payload byte's `BusRead` and its `MemWrite` (R120 step 15), and after it. -/
theorem test_hwReset_inside_payload :
    (nextHas (step { inRead .rData [] with plen := 4, inputs := [.hwResetWithin 1, .wire [0x32]] })
      fun t => t.ph == .idle && t.rbuf == [] && t.trace == [.busRead 0x32]) = true ∧
    (nextHas (step { inRead .rData [] with plen := 4, inputs := [.hwResetWithin 2, .wire [0x32]] })
      fun t => t.ph == .idle && t.rbuf == [(0, 0x32)] && t.trace == [.busRead 0x32]) = true := by decide

/-- Entries 7 and 9: the two stops of the model. -/
theorem test_stops :
    step { emitting with inputs := [.put .body [0x00]] } = .refused .bufferTouchedWhileBusy ∧
    step { start with inputs := [.peek 256] } = .fault .bufferIndex := ⟨rfl, rfl⟩

/-! ## Witnesses: a concrete input meets the hypotheses of each statement -/

theorem witness_DecodeOfEncodeIsIdentity : Instr.wf (.rspFrame 0xFF 0x01 (List.replicate 256 0x00)) = true ∧
    Instr.wf (.cmdFrame 0x00 0x00 [0x00]) = true :=
  ⟨beq_iff_eq.2 List.length_replicate, by decide⟩

theorem witness_EncodeOfDecodeIsIdentity : decode (.wire [0xFF]) = .ok (.statusByte 0x7F#7) := by decide

theorem witness_StepRunsFetchedInstruction :
    ({ start with inputs := [.writeReg .opr 13] } : State).inputs = .writeReg .opr 13 :: [] ∧
    ({ start with inputs := [.wire [0x01]] } : State).inputs = .wire [0x01] :: [] ∧
    decode (.wire [0x01]) = .ok (.statusByte 0#7) := by decide

theorem witness_RunningSumIgnoresOrder : [0x01#8, 0x02#8].Perm [0x02#8, 0x01#8] := by decide

theorem witness_DataChecksum : dcsOk 0x18 0xE8 = true ∧ (7 < 8) ∧ (0x32#8 ≠ 0x33#8) ∧
    dcsOk (sumBytes 0xD8 ([] ++ 0x32 :: [0x01, 0x06, 0x07])) 0xE8 = true := by decide

theorem witness_ElapsedIsExactAcrossOneWrap : 255 < 2 ^ ({ params with clkw := 8 } : Params).clkw ∧
    0 < 2 ^ ({ params with clkw := 0 } : Params).clkw := by decide

/-- V2.2-a, and a delay of 0 (V2.2-c). -/
theorem witness_DelayTakes : DelayTakes params 400 [0, 400] ∧ DelayTakes params 0 [5, 5] ∧
    DelayTakes params 100 [7, 100, 107] :=
  ⟨⟨0, [], 400, by decide⟩, ⟨5, [], 5, by decide⟩, ⟨7, [100], 107, by decide⟩⟩

theorem witness_BeginCompletes : start.busy = false ∧
    ({ start with nows := [0, 400] ++ [400, 500] ++ [9] } : State).nows = [0, 400] ++ [400, 500] ++ [9] ∧
    DelayTakes start.cfg start.cfg.tRstLow [0, 400] ∧ DelayTakes start.cfg start.cfg.tRstSettle [400, 500] :=
  ⟨rfl, rfl, ⟨0, [], 400, by decide⟩, ⟨400, [], 500, by decide⟩⟩

theorem witness_BeginFrame : start.busy = false ∧ ∃ t, exec .begin start = .next t := ⟨rfl, _, rfl⟩

theorem witness_WakeCompletes : start.busy = false ∧ ({ start with nows := [500, 501] } : State).nows = [500, 501] ++ [] ∧
    DelayTakes start.cfg start.cfg.tWakeHold [500, 501] := ⟨rfl, rfl, 500, [], 501, by decide⟩

/-- V2.5-d, V2.5-a, V2.5-b and V2.5-c: ready late, never, at once, and a limit of 0. -/
theorem witness_WaitTakes :
    WaitTakes params 10 [100, 100, 104] [false, false, true] true ∧ WaitTakes params 5 [0, 3, 5] [false, false] false ∧
    WaitTakes params 0 [9] [true] true ∧ WaitTakes params 0 [9, 9] [false] false :=
  ⟨⟨100, [100, 104], by decide, rfl, rfl⟩, ⟨0, [3], by decide, rfl, 5, by decide⟩, ⟨9, [], by decide, rfl, rfl⟩,
    ⟨9, [], by decide, by decide, 9, by decide⟩⟩

theorem witness_WaitReadyCompletes : start.busy = false ∧
    ({ start with tmo := 0, nows := [9, 9], readies := [false] } : State).nows = [9, 9] ++ [] ∧
    WaitTakes params 0 [9, 9] [false] false := ⟨rfl, rfl, 9, [], by decide, by decide, 9, by decide⟩

theorem witness_WakeAndWaitReadyFrame : start.busy = false ∧ (∃ t, exec .wake start = .next t) ∧
    ∃ t, exec .waitReady start = .next t := ⟨rfl, ⟨_, rfl⟩, ⟨_, rfl⟩⟩

/-- `LEN = MAXLEN` is admitted (V2.3-h), and `LEN = 2`. -/
theorem witness_CommandFrameInvariants : longest.hlen ≠ 0 ∧ tooLong longest.cfg longest.hlen longest.blen = false ∧
    writing.hlen ≠ 0 ∧ tooLong writing.cfg writing.hlen writing.blen = false := by decide

theorem witness_HeaderBodySplitDoesNotMatter : longest.hlen.toNat + longest.blen.toNat ≤ 255 ∧
    ({ start with hlen := 255 } : State).hlen.toNat + start.blen.toNat ≤ 255 := by decide

theorem witness_WriteCommandCompletes : writing.busy = false ∧ writing.hlen ≠ 0 ∧
    tooLong writing.cfg writing.hlen writing.blen = false ∧
    writing.accepts = List.replicate (writing.hlen.toNat + writing.blen.toNat + 8) true ++ [] ∧
    writing.nows = [510] ++ [] ∧ writing.readies = [true] ++ [] ∧
    WaitTakes writing.cfg writing.cfg.acktmo [510] [true] true ∧ writing.reads = 0x01 :: ackRom ++ [] ∧
    (0x01#8).getLsbD 0 = true :=
  ⟨rfl, by decide, by decide, by decide, rfl, rfl, ⟨510, [], by decide, rfl, rfl⟩, by decide, by decide⟩

/-- The two clauses: the wait of V2.4-b, and a wait that succeeds. -/
theorem witness_AckCheckVerdicts :
    WaitTakes params params.acktmo [0, 3, 7, 10] [false, false, false] false ∧
    WaitTakes params params.acktmo [0, 9] [false, true] true ∧
    ({ inAck 0 with ph := .aWait } : State).ph = .aWait ∧ ({ inAck 0 with ph := .aWait } : State).sub = .latch ∧
    ({ inAck 0 with reads := [0x01, 0, 0, 0xFF, 0, 0xFF, 0x01] } : State).reads =
      (#v[0x01, 0, 0, 0xFF, 0, 0xFF, 0x01] : Vector Byte 7).toList ++ [] :=
  ⟨⟨0, [3, 7], by decide, by decide, 10, by decide⟩, ⟨0, [9], by decide, rfl, rfl⟩, rfl, rfl, by decide⟩

/-- V2.3-j and V2.3-i; `HLEN = 31` is still admitted (V2.3-i2). -/
theorem witness_WriteCommandChecksLengths : start.busy = false ∧ start.hlen = 0 ∧
    ({ start with hlen := 32 } : State).hlen ≠ 0 ∧
    start.cfg.maxlen.toNat < ({ start with hlen := 32 } : State).hlen.toNat + start.blen.toNat + 1 ∧
    ¬ start.cfg.maxlen.toNat < ({ start with hlen := 31 } : State).hlen.toNat + start.blen.toNat + 1 := by decide

/-- The first byte, and the last (V2.3-k2, V2.3-k3). -/
theorem witness_RejectedWriteSendsNothing : writing.busy = false ∧ writing.hlen ≠ 0 ∧
    tooLong writing.cfg writing.hlen writing.blen = false ∧ 0 < writing.hlen.toNat + writing.blen.toNat + 8 ∧
    8 < writing.hlen.toNat + writing.blen.toNat + 8 ∧
    ({ writing with accepts := [false] } : State).accepts = List.replicate 0 true ++ false :: [] := by decide

theorem witness_WriteCommandRecordsTheCommand : writing.busy = false ∧ writing.hlen ≠ 0 := by decide

theorem witness_WriteCommandFrame : writing.busy = false ∧ ∃ t, exec .writeCommand writing = .next t := ⟨rfl, _, rfl⟩

/-- The answers are there, and they are not. -/
theorem witness_PhaseMachineIsThePseudocode : reading.busy = false ∧ (4#3).toNat ≤ 4 ∧
    (Pseudo.finalState 3 reading).isSome = true ∧ (Pseudo.finalState 3 { reading with nows := [] }).isNone = true := by
  decide

theorem witness_ReadResponseRoundTrip : reading.busy = false ∧ reading.pendv = true ∧ reading.pendcmd ≠ 0xFF ∧
    [0x32#8, 0x01#8, 0x06#8, 0x07#8].length ≤ reading.maxl.toNat ∧ [0x32#8, 0x01#8, 0x06#8, 0x07#8].length ≤ 253 ∧
    reading.nows = [0] ++ [] ∧ reading.readies = [true] ++ [] ∧ WaitTakes reading.cfg reading.tmo [0] [true] true ∧
    (0x01#8).getLsbD 0 = true ∧
    reading.reads = 0x01 :: generalFrame 0xD5 ((reading.pendcmd + 1) :: [0x32, 0x01, 0x06, 0x07]) 0x00 ++ [] :=
  ⟨rfl, rfl, by decide, by decide, by decide, rfl, rfl, ⟨0, [], by decide, rfl, rfl⟩, by decide, by decide⟩

/-- One witness for each clause, from 95_test_vectors.md 3.2 and 3.3. -/
theorem witness_ResponseChecksByPosition : (inRead .rStatus []).ph = .rStatus ∧ (0xFE#8).getLsbD 0 = false ∧
    (0x01#8).getLsbD 0 = true ∧ (0xFF#8 ≠ 0x00) ∧ (0x01#8 ≠ 0x00) ∧ (0x00#8 ≠ 0xFF) ∧
    ((0x06#8).toNat + (0xEA#8).toNat) % 256 ≠ 0 ∧ ((0x06#8).toNat + (0xFA#8).toNat) % 256 = 0 ∧ (0xD4#8 ≠ 0xD5) ∧
    (0x02#8).toNat ≠ (inRead .rStatus []).pendcmd.toNat + 1 ∧ (0x03#8).toNat = (inRead .rStatus []).pendcmd.toNat + 1 ∧
    (0x01#8).toNat < 2 ∧ ((0x01#8).toNat + (0xFF#8).toNat) % 256 = 0 ∧
    (inRead .rStatus [0x01, 0x00, 0x00, 0xFF, 0x01, 0xFF, 0xD5, 0x03]).reads =
      0x01 :: 0x00 :: 0x00 :: 0xFF :: 0x01 :: 0xFF :: 0xD5 :: 0x03 :: [] := by decide

theorem witness_WrongDcsIsRejected : (inRead .rDcs [0xE9, 0x00]).ph = .rDcs ∧
    (inRead .rDcs [0xE9, 0x00]).reads = 0xE9 :: [0x00] ∧ ((0x18#8).toNat + (0xE9#8).toNat) % 256 ≠ 0 ∧
    ((0x18#8).toNat + (0xE8#8).toNat) % 256 = 0 := by decide

theorem witness_ReadResponseNeedsARecord : start.busy = false ∧ start.pendv = false := by decide

theorem witness_ReadResponseTimeoutReadsNothing : reading.busy = false ∧ reading.pendv = true ∧
    ({ reading with nows := [0, 1000], readies := [false] } : State).nows = [0, 1000] ++ [] ∧
    WaitTakes reading.cfg reading.tmo [0, 1000] [false] false :=
  ⟨rfl, rfl, rfl, 0, [], by decide, by decide, 1000, by decide⟩

/-- `MAXL = 3` against four bytes; 253 bytes against `MAXL = 252` (V3.3-c, V3.3-g). -/
theorem witness_CapacityIsNeverExceeded : (inRead .rStatus responseA).ph = .rStatus ∧
    ((0x06#8).toNat + (0xFA#8).toNat) % 256 = 0 ∧ (0x03#8).toNat = (inRead .rStatus responseA).pendcmd.toNat + 1 ∧
    ({ inRead .rStatus responseA with maxl := 3 } : State).maxl.toNat + 2 < (0x06#8).toNat ∧
    ({ inRead .rStatus responseA with maxl := 252 } : State).maxl.toNat + 2 < (0xFF#8).toNat ∧
    ∃ t, exec .readResponse reading = .next t := ⟨by decide, by decide, by decide, by decide, by decide, _, rfl⟩

/-- An accepted response, and one whose `DCS` is wrong (V3.1-a, V3.2-l), and another abort (V3.3-d). -/
theorem witness_RbufAfterReadResponse :
    ended (exec .readResponse reading) .ok .none = true ∧
    ended (exec .readResponse { reading with reads := responseA.set 12 0xE9 }) .invalidFrame .badDcs = true ∧
    ended (exec .readResponse { reading with maxl := 0 }) .noSpace .noSpace = true := by decide

theorem witness_CommandFFAcceptsNoResponse :
    ({ reading with pendcmd := 0xFF } : State).busy = false ∧ ({ reading with pendcmd := 0xFF } : State).pendcmd = 0xFF := by
  decide

theorem witness_ReadResponseFrame : reading.busy = false ∧ ∃ t, exec .readResponse reading = .next t := ⟨rfl, _, rfl⟩

theorem witness_StatusByteCompletes : (inRead .rStatus []).reads = [] ∧ (inRead .rStatus []).ph = .rStatus ∧
    (inAck 0).reads = [] ∧ (inAck 0).ph = .aRead ∧ (inAck 0).idx = 0 := by decide

theorem witness_AckFrameCompletes : (inAck 1).ph = .aRead ∧ (inAck 1).idx = 1 ∧ (inAck 1).reads = [] := by decide

/-- The longest payload, and the empty one with `MAXL = 0`. -/
theorem witness_RspFrameCompletes : (inRead .rPre []).ph = .rPre ∧ (inRead .rPre []).reads = [] ∧
    (inRead .rPre []).pendcmd ≠ 0xFF ∧ (List.replicate 253 0x00#8).length ≤ 253 ∧
    (List.replicate 253 0x00#8).length ≤ ({ inRead .rPre [] with maxl := 253 } : State).maxl.toNat ∧
    ([] : List Byte).length ≤ ({ inRead .rPre [] with maxl := 0 } : State).maxl.toNat :=
  ⟨rfl, rfl, by decide, List.length_replicate.le, by rw [List.length_replicate]; decide, by decide⟩

theorem witness_CmdFrameCompletes : emitting.ph = .wHead ∧ emitting.idx = 0 ∧ emitting.hlen ≠ 0 ∧
    tooLong emitting.cfg emitting.hlen emitting.blen = false ∧
    emitting.lenr.toNat = frameLen emitting.hlen emitting.blen ∧ emitting.accepts = [] ∧ emitting.staged = [] ∧
    emitting.nows = [] := by decide

theorem witness_IdleEngineIgnoresTheBus : start.ph = .idle ∧ ∀ c, encode .ackFrame ≠ .opsel c :=
  ⟨rfl, fun _ h => nomatch h⟩

theorem witness_FramesOfTheWrongKindAreRejected : (inRead .rPre []).ph = .rPre ∧ (inRead .rPre []).reads = [] := by
  decide

/-- An engine that waits for the response. -/
def waiting : State := { inRead .rWait [] with txn := .closed, tmo := 1000, inputs := [.readReg .status] }

theorem waiting_inv : waiting.Inv where
  config := by decide
  busy_iff := by decide
  result_eq := by decide
  tmo_lt := by decide
  t0_lt := by decide
  tmor_lt := by decide
  plen_le := by decide
  store_lt := by decide
  pending := by decide
  hdr_wf := by decide
  body_wf := by decide
  rbuf_wf := by decide

theorem witness_WireFormatFrame : waiting.Inv ∧ waiting.atRest ∧ (∃ t, exec .ackFrame waiting = .next t) ∧
    (inRead .rData []).atRest ∧ (inRead .rData []).ph = .rData ∧ waiting.ph.readsResponse = true ∧
    (inAck 0).ph.readsResponse = false := ⟨waiting_inv, by decide, ⟨_, rfl⟩, by decide, rfl, rfl, rfl⟩

theorem witness_ReservedCodesAreRejected : start.busy = false := by decide

theorem witness_WritesWhileBusyAreIgnored :
    ({ emitting with inputs := [.writeReg .opr 0] } : State).busy = true ∧
    ({ emitting with inputs := [.writeReg .opr 0] } : State).inputs = .writeReg .opr 0 :: [] := by decide

theorem witness_OldResultStaysUntilTheEnd : start.busy = false ∧ start.ph = .idle := by decide

/-- A read, an idle write of a latch and of a read-only register; a busy state. -/
theorem witness_HostRegisterTable : waiting.inputs = .readReg .status :: [] ∧ start.busy = false ∧
    ({ start with inputs := [.writeReg .hlen 0x1FF] } : State).inputs = .writeReg .hlen 0x1FF :: [] ∧
    ({ start with inputs := [.writeReg .plen 3] } : State).inputs = .writeReg .plen 3 :: [] ∧ emitting.busy = true := by
  decide

/-- Each clause; a write to `OPR` while idle, and an answer while busy, set the engine going. -/
theorem witness_HardwareResetAbandonsTheOperation :
    ({ emitting with inputs := [.hwReset] } : State).inputs = .hwReset :: [] ∧
    ({ start with inputs := [.hwResetWithin 1, .writeReg .opr 0] } : State).inputs =
      .hwResetWithin 1 :: [.writeReg .opr 0] ∧
    ({ start with inputs := [.writeReg .opr 0] } : State).inputs = .writeReg .opr 0 :: [] ∧
    SetsGoing start (.writeReg .opr 0) ∧ SetsGoing emitting (.accept true) ∧ start.inputs = [] :=
  ⟨rfl, rfl, rfl, ⟨rfl, rfl⟩, trivial, rfl⟩

/-- Every clause; 256 bytes are the most that fit, and 255 is the last index. -/
theorem witness_BuffersAreTheHostsWhileIdle : emitting.busy = true ∧ start.busy = false ∧
    (List.replicate 256 0x00#8).length ≤ 256 ∧ 256 < (List.replicate 257 0x00#8).length ∧
    ({ start with inputs := [.put .rbuf [0x02]] } : State).inputs = .put .rbuf [0x02] :: [] ∧
    ({ start with inputs := [.peek 255] } : State).inputs = .peek 255 :: [] ∧ 255 < 256 ∧ 256 ≤ 256 :=
  ⟨rfl, rfl, List.length_replicate.le, by rw [List.length_replicate]; decide, rfl, rfl, by decide, by decide⟩

theorem witness_AWaitCannotBeCancelled : waiting.busy = true ∧ waiting.atRest ∧
    waiting.inputs = .readReg .status :: [] ∧ ({ waiting with inputs := [] } : State).inputs = [] := by decide

theorem witness_VisitsFollowTheTable : (tick emitting).isNone = true ∧
    (tick { emitting with accepts := [true] }).isSome = true ∧ (tick { start with ph := .xClose }).isSome = true := by
  decide

theorem witness_EventsOfTheOperations : start.busy = false ∧ ∃ t, exec (decodeOpCode 1) start = .next t :=
  ⟨rfl, _, rfl⟩

theorem witness_ConfigurationNeverChanges : ∃ t, step waiting = .next t := ⟨_, rfl⟩

theorem witness_OnlyTheirOperationsWriteTheFlags : waiting.Inv ∧ waiting.atRest ∧
    ∃ t, exec (.statusByte 0#7) waiting = .next t := ⟨waiting_inv, by decide, _, rfl⟩

/-- Two states that differ in a working register, and in `PENDCMD` while `PENDV = 0`. -/
theorem witness_WorkingRegistersNeverMatter : start.busy = false ∧ start.ph = .idle ∧
    Alike start { start with sum := 0x55, pendcmd := 0x14, sub := .clock } ∧
    ∃ t, exec .readResponse start = .next t := ⟨rfl, rfl, by constructor <;> simp [start, State.reset], _, rfl⟩

theorem witness_StepKeepsInvariant : waiting.Inv ∧ ∃ t, step waiting = .next t := ⟨waiting_inv, _, rfl⟩

theorem emitting_inv : emitting.Inv where
  config := by decide
  busy_iff := by decide
  result_eq := by decide
  tmo_lt := by decide
  t0_lt := by decide
  tmor_lt := by decide
  plen_le := by decide
  store_lt := by decide
  pending := by decide
  hdr_wf := by decide
  body_wf := by decide
  rbuf_wf := by decide

theorem emitting_builderInv : emitting.BuilderInv where
  length_ok := fun _ => by decide
  index_ok := by simp [indexInRange, emitting, start, State.reset]
  staged_eq := by intro n h; cases h; decide
  sum_eq := by intro n h h6; cases h; exact absurd h6 (by decide)
  txn_ok := by intro n h; cases h; decide
  no_writes := by decide
  committed_ok := by intro f h; exact absurd h (by simp [emitting, start, State.reset])

theorem witness_OnlyCommandFramesGoOut : emitting.Inv ∧ emitting.BuilderInv ∧ ∃ t, step emitting = .next t :=
  ⟨emitting_inv, emitting_builderInv, _, rfl⟩

theorem witness_StepComesToRest : waiting.atRest ∧ ∃ t, step waiting = .next t := ⟨by decide, _, rfl⟩

/-- With the header of P1 line 3 and an omitted body. -/
theorem witness_NotationStandsForItsWrites : start.busy = false ∧ start.ph = .idle ∧ [0x02#8].length ≤ 255 ∧
    ([] : List Byte).length ≤ 255 := by decide

/-- READ_RESPONSE that waits for its clock, and WRITE_COMMAND about to emit. -/
theorem witness_AnswersMayComeLater : reading.busy = false ∧
    (nextHas (exec (decodeOpCode 3) { reading with nows := [] }) fun t => t.busy && !aboutToEmit [0x01] t) = true ∧
    (nextHas (exec (decodeOpCode 2) { writing with accepts := [] }) fun t =>
      t.busy && aboutToEmit [0x00, 0x00, 0xFF, 0x02, 0xFE, 0xD4, 0x02, 0x2A, 0x00] t) = true := by decide

/-! ## The notation -/

/-- P1 line 3 as register writes (R77). -/
theorem test_notation : Line.inputs params (.writeCommand [0x02] []) =
    [.put .hdr [0x02], .put .body [], .writeReg .hlen 1, .writeReg .blen 0, .writeReg .opr 2] := by decide

end Sys2Proof.Tests
end

section
/-! PROOFS. What a step can do, said once: an input that sets the engine going lands and the engine runs; any other
input is an access of the host or a reset. -/

namespace Sys2Proof.Machine

/-! ## The inputs that set the engine going -/

/-- What an input that sets the engine going does before the first visit: it starts an operation, rejects a reserved
code, or adds answers. -/
inductive Lands (s : State) : State → Prop
  | start (c : OpCode) (ph : Phase) : s.busy = false → firstPhase c = some ph → Lands s (startOperation c ph s)
  | reject (c : OpCode) : s.busy = false → firstPhase c = none → Lands s (rejectCode c s)
  | answers (ns : List Nat) (rs as : List Bool) (bs : List Byte) : Lands s (s.more ns rs as bs)

theorem more_nil (s : State) : s.more [] [] [] [] = s := by simp [State.more]

theorem Lands.same (s : State) : Lands s s := by simpa only [more_nil] using Lands.answers (s := s) [] [] [] []

theorem offer_eq_more (bs : List Byte) (s : State) : offer bs s = s.more [] [] [] bs := by simp [offer, State.more]

/-- The engine is about to emit only while the bus driver has no answer ready (entry 11). -/
theorem acceptAll_eq_more {bs : List Byte} {s : State} (h : aboutToEmit bs s = true) :
    acceptAll bs s = s.more [] [] (List.replicate bs.length true) [] := by
  have ha : s.accepts = [] := by simp [aboutToEmit] at h; exact h.1.2
  simp [acceptAll, State.more, ha]

theorem lands_offer (bs : List Byte) (s : State) : Lands s (offer bs s) := offer_eq_more bs s ▸ .answers _ _ _ _

theorem lands_beginOperation (c : OpCode) (s : State) : Lands s (beginOperation c s) := by
  unfold beginOperation
  split
  · exact .same s
  · next hb =>
    have hb : s.busy = false := by simpa using hb
    split
    · next ph hp => exact .start c ph hb hp
    · next hp => exact .reject c hb hp

theorem lands_landWire (bs : List Byte) (s : State) : Lands s (landWire bs s) := by
  unfold landWire
  split
  · split
    · next h => exact acceptAll_eq_more h ▸ .answers _ _ _ _
    · exact lands_offer bs s
  · exact lands_offer bs s

/-- What lands before a run that a reset cuts is what lands before a run that it does not. -/
theorem lands_landNext (s : State) : ∃ is, Lands { s with inputs := is } (landNext s) := by
  unfold landNext
  split
  · exact ⟨_, lands_beginOperation _ _⟩
  · next t rest _ =>
    exact ⟨rest, by simpa [State.more] using Lands.answers (s := { s with inputs := rest }) [t] [] [] []⟩
  · next v rest _ =>
    exact ⟨rest, by simpa [State.more] using Lands.answers (s := { s with inputs := rest }) [] [v] [] []⟩
  · next v rest _ =>
    exact ⟨rest, by simpa [State.more] using Lands.answers (s := { s with inputs := rest }) [] [] [v] []⟩
  · exact ⟨_, lands_landWire _ _⟩
  · exact ⟨s.inputs, .same s⟩

/-! ## Instructions -/

/-- R35, R73, R184: a write of a code to `OPR` is ignored, or its operation starts and runs, or it is rejected. -/
theorem exec_decodeOpCode (c : OpCode) (s : State) : exec (decodeOpCode c) s = .next
    (if s.busy then s
      else match firstPhase c with
        | some ph => resume (startOperation c ph s)
        | none => rejectCode c s) := by
  obtain ⟨⟨n, hn⟩⟩ := c
  interval_cases n <;> rfl

theorem exec_operation {c : OpCode} {ph : Phase} {s : State} (hb : s.busy = false) (hp : firstPhase c = some ph) :
    exec (decodeOpCode c) s = .next (resume (startOperation c ph s)) := by
  simp [exec_decodeOpCode, hb, hp]

theorem exec_reserved {c : OpCode} {s : State} (hb : s.busy = false) (hp : firstPhase c = none) :
    exec (decodeOpCode c) s = .next (rejectCode c s) := by
  simp [exec_decodeOpCode, hb, hp]

/-- R62 to R66: an instruction is the host's write of a code, or bytes on the bus: the chip's, but for the frame that
the engine is about to emit, whose writes are accepted (entries 10 and 11). -/
theorem instr_cases (i : Instr) : (∃ c, i = decodeOpCode c) ∨ ∃ bs, ∀ s,
    exec i s = .next (if aboutToEmit bs s then resume (acceptAll bs s) else deliver bs s) ∨
      exec i s = .next (deliver bs s) := by
  cases i with
  | begin => exact .inl ⟨0, rfl⟩
  | wake => exact .inl ⟨1, rfl⟩
  | writeCommand => exact .inl ⟨2, rfl⟩
  | readResponse => exact .inl ⟨3, rfl⟩
  | waitReady => exact .inl ⟨4, rfl⟩
  | reserved5 => exact .inl ⟨5, rfl⟩
  | reserved6 => exact .inl ⟨6, rfl⟩
  | reserved7 => exact .inl ⟨7, rfl⟩
  | cmdFrame len lcs rest => exact .inr ⟨_, fun s => .inl (apply_ite Host.Outcome.next _ _ _).symm⟩
  | rspFrame len lcs rest => exact .inr ⟨_, fun s => .inr rfl⟩
  | ackFrame => exact .inr ⟨_, fun s => .inr rfl⟩
  | statusByte ignored => exact .inr ⟨_, fun s => .inr rfl⟩

/-- An instruction that is no write of a code only brings answers. -/
theorem exec_wire_cases (i : Instr) (s : State) :
    (∃ c, i = decodeOpCode c) ∨ ∃ as bs, exec i s = .next (resume (s.more [] [] as bs)) := by
  obtain hc | ⟨bs, h⟩ := instr_cases i
  · exact .inl hc
  have hd : deliver bs s = resume (s.more [] [] [] bs) := congrArg resume (offer_eq_more bs s)
  refine .inr ?_
  obtain h | h := h s
  · split at h
    · next ha => exact ⟨_, [], by rw [h, acceptAll_eq_more ha]⟩
    · exact ⟨[], bs, by rw [h, hd]⟩
  · exact ⟨[], bs, by rw [h, hd]⟩

/-- Every instruction answers a next state: what it lands, as it is or after the run it sets off. -/
theorem exec_cases (i : Instr) (s : State) : ∃ u, Lands s u ∧ (exec i s = .next u ∨ exec i s = .next (resume u)) := by
  obtain ⟨c, rfl⟩ | ⟨as, bs, h⟩ := exec_wire_cases i s
  · cases hb : s.busy with
    | true => exact ⟨s, .same s, .inl (by simp [exec_decodeOpCode, hb])⟩
    | false =>
      cases hp : firstPhase c with
      | some ph => exact ⟨_, .start c ph hb hp, .inr (exec_operation hb hp)⟩
      | none => exact ⟨_, .reject c hb hp, .inl (exec_reserved hb hp)⟩
  · exact ⟨_, .answers [] [] as bs, .inr h⟩

/-! ## Steps -/

/-- An access of the host that is no instruction: a write to a latch, a read, or bytes placed in a buffer. -/
inductive HostAccess (s : State) : State → Prop
  | latch (r : HostReg) (v : Nat) : HostAccess s (writeLatch r v s)
  | read (v n : Nat) : HostAccess s { s with rdata := v, fresh := n }
  | place (b : Buffer) (bs : List Byte) : s.busy = false → bs.length ≤ 256 → HostAccess s (putBuffer b bs s)

theorem bufferAccess_cases {top : Nat} {k : State → State} {s t : State} (h : bufferAccess top k s = .next t) :
    s.busy = false ∧ top ≤ 256 ∧ t = k s := by
  unfold bufferAccess at h
  split at h
  · cases h
  · split at h
    · cases h
    · next hb ht => cases h; exact ⟨by simpa using hb, by omega, rfl⟩

/-- What an input that is no instruction does. -/
theorem hostInput_cases {a : Input} {s t : State} (h : hostInput a s = .next t) :
    (∃ u, Lands s u ∧ t = resume u) ∨ HostAccess s t ∨ t = hardwareReset s ∨ ∃ n, t = cutByReset n s := by
  cases a with
  | writeReg r v => cases h; exact .inr (.inl (.latch r v))
  | readReg r => cases h; exact .inr (.inl (.read _ _))
  | put b bs =>
    obtain ⟨hb, hl, rfl⟩ := bufferAccess_cases h
    exact .inr (.inl (.place b bs hb hl))
  | peek i =>
    unfold hostInput at h
    obtain ⟨-, -, rfl⟩ := bufferAccess_cases h
    exact .inr (.inl (.read _ s.fresh))
  | hwReset => cases h; exact .inr (.inr (.inl rfl))
  | hwResetWithin n => cases h; exact .inr (.inr (.inr ⟨n, rfl⟩))
  | now v => cases h; exact .inl ⟨_, .answers [v] [] [] [], by simp [State.more]⟩
  | ready v => cases h; exact .inl ⟨_, .answers [] [v] [] [], by simp [State.more]⟩
  | accept v => cases h; exact .inl ⟨_, .answers [] [] [v] [], by simp [State.more]⟩
  | wire bs => cases h; exact .inl ⟨_, lands_offer bs s, rfl⟩

/-- The fetched instruction leaves the queue, which is all that the fetch does. -/
theorem fetch_state {s s' : State} {i : Instr} (h : fetch s = some (i, s')) : ∃ is, s' = { s with inputs := is } := by
  unfold fetch at h
  split at h
  · cases h; exact ⟨_, rfl⟩
  · split at h
    · cases h; exact ⟨_, rfl⟩
    · cases h
  · cases h

/-- What one step does, on the state without the input it takes: an input lands, with or without a run behind it; the
host makes an access; or the hardware reset falls, where the engine stands or in the middle of a run. -/
theorem step_cases {s t : State} (h : step s = .next t) : ∃ is,
    (∃ u, Lands { s with inputs := is } u ∧ (t = u ∨ t = resume u)) ∨ HostAccess { s with inputs := is } t ∨
      t = hardwareReset { s with inputs := is } ∨ ∃ n, t = cutByReset n { s with inputs := is } := by
  unfold step at h
  split at h
  · next i s' hf =>
    obtain ⟨is, rfl⟩ := fetch_state hf
    obtain ⟨u, hu, he | he⟩ := exec_cases i { s with inputs := is }
    · exact ⟨is, .inl ⟨u, hu, .inl (by simpa [he] using h.symm)⟩⟩
    · exact ⟨is, .inl ⟨u, hu, .inr (by simpa [he] using h.symm)⟩⟩
  · split at h
    · cases h; exact ⟨s.inputs, .inl ⟨s, .same s, .inr rfl⟩⟩
    · next a rest _ =>
      obtain ⟨u, hu, rfl⟩ | hh := hostInput_cases h
      · exact ⟨rest, .inl ⟨u, hu, .inr rfl⟩⟩
      · exact ⟨rest, .inr hh⟩

/-- The induction of the whole machine: a property that does not look at the queue, and that landing, every visit, every
access of the host and the hardware reset keep, is kept by every step. -/
theorem step_keeps {P : State → Prop} (hin : ∀ s is, P s → P { s with inputs := is })
    (hland : ∀ s u, Lands s u → P s → P u) (htick : ∀ s t, tick s = some t → P s → P t)
    (hhost : ∀ s t, HostAccess s t → P s → P t) (hreset : ∀ s, P s → P (hardwareReset s))
    {s t : State} (h : step s = .next t) (hs : P s) : P t := by
  obtain ⟨is, ⟨u, hu, rfl | rfl⟩ | hh | rfl | ⟨n, rfl⟩⟩ := step_cases h
  · exact hland _ _ hu (hin s is hs)
  · exact resume_keeps htick (hland _ _ hu (hin s is hs))
  · exact hhost _ _ hh (hin s is hs)
  · exact hreset _ (hin s is hs)
  · refine cutByReset_keeps (fun s hs => ?_) htick hreset n (hin s is hs)
    obtain ⟨is, hl⟩ := lands_landNext s
    exact hland _ _ hl (hin s is hs)

/-! ## The configuration -/

theorem Lands.cfg {s u : State} (h : Lands s u) : u.cfg = s.cfg := by cases h <;> rfl

theorem writeLatch_cfg (r : HostReg) (v : Nat) (s : State) : (writeLatch r v s).cfg = s.cfg := by
  unfold writeLatch
  split
  · rfl
  · cases r <;> rfl

theorem HostAccess.cfg {s t : State} (h : HostAccess s t) : t.cfg = s.cfg := by
  cases h with
  | latch r v => exact writeLatch_cfg r v s
  | read v n => rfl
  | place b bs => cases b <;> rfl

/-- Settles O52: no part of a step writes the constants. -/
theorem configurationNeverChanges : Obligations.ConfigurationNeverChanges := fun s _ h =>
  step_keeps (P := fun u => u.cfg = s.cfg) (fun _ _ hs => hs) (fun _ _ hl hs => hl.cfg.trans hs)
    (fun _ _ ht hs => (tick_sameOperands ht).cfg.trans hs) (fun _ _ hh hs => hh.cfg.trans hs) (fun _ hs => hs) h rfl

/-! ## The fetch -/

/-- Settles O4: the fetch takes the input at the head of the queue. -/
theorem stepRunsFetchedInstruction : Obligations.StepRunsFetchedInstruction := by
  refine ⟨fun s v rest h => ?_, fun s bs i rest h hd => ?_⟩
  · simp [step, fetch, h]
  · have hw : decodeWire bs = .ok i := hd
    simp [step, fetch, h, hw]

end Sys2Proof.Machine
end

section
/-! PROOFS. What one visit of a phase can do to the phase, the events and the registers, said once for all phases. -/

namespace Sys2Proof.Machine

/-- What a visit of a phase does, whatever the phase. -/
structure Visit (s t : State) : Prop where
  /-- The phase moves along an edge of R34. -/
  edge : t.ph ∈ s.ph.successors
  /-- At most one external event. -/
  event : ∃ ev, t.trace = s.trace ++ ev ∧ ev.length ≤ 1
  /-- IDLE is reached by the end of the operation, with a cause of the phase. -/
  ends : t.ph = .idle →
    EndedWith t.cause.result t.cause t ∧ (t.cause ∈ s.ph.causes ∨ (s.ph = .xClose ∧ t.cause = s.xcause))
  /-- Until then `BUSY`, `RESULT` and `CAUSE` stay. -/
  runs : t.ph ≠ .idle → t.busy = s.busy ∧ t.result = s.result ∧ t.cause = s.cause
  pairing : s.ph ≠ .wCheck → s.ph ≠ .bInit → t.pendcmd = s.pendcmd ∧ t.pendv = s.pendv
  rdyres : s.ph ≠ .gWait → s.ph ≠ .bInit → t.rdyres = s.rdyres
  rstn : s.ph ≠ .bInit → s.ph ≠ .bSettle → t.rstn = s.rstn
  plen : s.ph ≠ .rSize → t.plen = s.plen
  rbuf : s.ph ≠ .rData → t.rbuf = s.rbuf
  /-- `T0` and `TMOR` change together: to a sample and the time limit of the phase, or to free values. -/
  clock : t.t0 = s.t0 ∧ t.tmor = s.tmor ∨
    ∃ x, t.t0 = clockValue s.cfg x ∧
      (t.tmor ∈ [s.tmo, s.cfg.acktmo, s.cfg.tRstLow, s.cfg.tRstSettle, s.cfg.tWakeHold] ∨
        ∃ y, t.tmor = clockValue s.cfg y)

/-- One visit of R_DATA: a byte is read, or the byte read before is stored and summed (R120 step 15). -/
theorem rData_cases {s t : State} (h : rData s = some t) :
    (∃ b bs, t = { s with
      reads := bs
      txn := .reading
      trace := s.trace ++ [.busRead b]
      rbyte := b
      sub := .ready }) ∨
    s.sub = .ready ∧
      t = if s.idx.toNat + 1 < s.plen.toNat then
          { s with
            rbuf := Memory.write s.rbuf s.idx.toNat s.rbyte
            sum := sumAdd s.sum s.rbyte
            sub := .latch
            idx := s.idx + 1 }
        else
          { s with
            rbuf := Memory.write s.rbuf s.idx.toNat s.rbyte
            sum := sumAdd s.sum s.rbyte
            sub := .latch
            ph := .rDcs } := by
  unfold rData at h
  split at h
  case h_4 hs => exact .inr ⟨hs, (Option.some.inj h).symm⟩
  all_goals
    obtain ⟨b, bs, -, rfl⟩ := askRead_cases h
    exact .inl ⟨b, bs, rfl⟩

theorem ackVerdict_cases (buf : Vector Byte 7) :
    ackVerdict buf = .none ∨ ackVerdict buf = .ackStatusNotReady ∨ ackVerdict buf = .ackPatternMismatch := by
  unfold ackVerdict
  repeat' split
  all_goals simp

/-- Every visit does so: by the events a phase asks for, and by the branches of its text. -/
theorem tick_visit {s t : State} (h : tick s = some t) : Visit s t := by
  cases hp : s.ph <;>
    simp only [tick, hp, Option.some.injEq, reduceCtorEq, rPre, rSc1, rSc2, rTfi, expectByte, wHdr, wBody] at h
  case aRead | rStatus | rPre | rSc1 | rSc2 | rLen | rLcs | rTfi | rEcho | rDcs | rPost =>
    obtain ⟨b, bs, -, rfl⟩ := askRead_cases h
    dsimp only
    repeat' split
    all_goals constructor <;> simp [hp, Phase.successors]
  case wHead | wHdr | wBody | wDcs | wPost =>
    obtain ⟨as, -, rfl⟩ | ⟨as, -, rfl⟩ := emitByte_cases h
    all_goals repeat' split
    all_goals constructor <;> simp [hp, Phase.successors, Phase.causes, EndedWith]
  case aWait | rWait | gWait =>
    obtain ⟨x, xs, -, -, rfl⟩ | ⟨r, rs, -, -, rfl⟩ | ⟨x, xs, -, -, rfl⟩ := waitVisit_cases h
    all_goals repeat' split
    all_goals constructor <;> simp [hp, Phase.successors, Phase.causes, EndedWith, Cause.result]
  case bLow | kHold =>
    obtain ⟨x, xs, -, -, rfl⟩ | ⟨x, xs, -, -, rfl⟩ := delayVisit_cases h
    all_goals repeat' split
    all_goals constructor <;> simp [hp, Phase.successors]
  case rData =>
    obtain ⟨b, bs, rfl⟩ | ⟨-, rfl⟩ := rData_cases h
    · constructor <;> simp [hp, Phase.successors]
    · split <;> constructor <;> simp [hp, Phase.successors]
  case bSettle =>
    unfold bSettle at h
    split at h
    case h_1 => cases h; constructor <;> simp [hp, Phase.successors]
    all_goals
      obtain ⟨x, xs, -, -, rfl⟩ | ⟨x, xs, -, -, rfl⟩ := delayVisit_cases h
      all_goals repeat' split
      all_goals constructor <;> simp [hp, Phase.successors, Phase.causes, EndedWith, Cause.result]
  case aEval =>
    subst h
    have hv := ackVerdict_cases s.ackbuf
    unfold aEval
    split <;> constructor <;> simp [hp, Phase.successors, Phase.causes, EndedWith, Cause.result, hv]
  case wCheck | rCheck | rSize | bInit =>
    subst h
    simp only [wCheck, rCheck, rSize, bInit]
    repeat' split
    all_goals constructor <;> simp [hp, Phase.successors, Phase.causes, EndedWith, Cause.result]
  case wOpen | wCommit | aOpen | aClose | rOpen | rClose | kOpen | kClose | xClose =>
    subst h
    simp only [wOpen, wCommit, aOpen, aClose, rOpen, rClose, kOpen, kClose, xClose]
    constructor <;> simp [hp, Phase.successors, Phase.causes, EndedWith, Cause.result]

/-- Settles O50: it is part of what every visit does. -/
theorem visitsFollowTheTable : Obligations.VisitsFollowTheTable := fun _ _ h =>
  let v := tick_visit h
  ⟨v.edge, v.event, v.ends⟩

theorem tick_idle {s : State} (h : s.ph = .idle) : tick s = none := by simp [tick, h]

theorem not_idle_of_tick {s t : State} (h : tick s = some t) : s.ph ≠ .idle := fun hi => by simp [tick_idle hi] at h

end Sys2Proof.Machine
end

section
/-! PROOFS. The invariant of the registers and buffers: every visit keeps it, and so does all else that a step does. -/

namespace Sys2Proof.Machine

/-! ## A visit -/

theorem clockValue_lt (p : Params) (x : Nat) : clockValue p x < 2 ^ p.clkw := Nat.mod_lt _ (Nat.two_pow_pos _)

/-- R34: the payload is entered from R_SIZE only. -/
theorem Phase.rData_of_edge (p : Phase) : Phase.rData ∈ p.successors → p = .rSize ∨ p = .rData := by
  cases p <;> decide

/-- R34: the phases that compare with the record are entered behind the check of `PENDV` only. -/
theorem Phase.readsResponse_of_edge (p : Phase) :
    ∀ q ∈ p.successors, q.readsResponse = true → p.readsResponse = true ∨ p = .rCheck := by
  cases p <;> decide

/-- R120 step 1: R_CHECK goes on only with a record. -/
theorem rCheck_pendv {s : State} (h : (rCheck s).ph ≠ .idle) : (rCheck s).pendv = true := by
  unfold rCheck at h ⊢
  split
  · assumption
  · next hp => simp [hp] at h

/-- R120 steps 12 to 14: the length that R_SIZE computes is in range, and R_DATA is entered only with room for it. -/
theorem rSize_bounds {s : State} (h : s.plen.toNat ≤ 253) :
    (rSize s).plen.toNat ≤ 253 ∧ ((rSize s).ph = .rData →
      (rSize s).idx.toNat < (rSize s).plen.toNat ∧ (rSize s).plen.toNat ≤ (rSize s).maxl.toNat) := by
  unfold rSize
  split
  · simpa using h
  · next hl =>
    have hl : 2 ≤ s.lenr.toNat := by simpa [lenTooShort, Nat.succ_le_iff] using hl
    have hp : (s.lenr - 2).toNat ≤ 253 := by bv_omega
    dsimp only
    split
    · simpa using hp
    · next hn =>
      have hn : (s.lenr - 2).toNat ≤ s.maxl.toNat := by simpa [noSpace] using hn
      refine ⟨hp, fun hd => ⟨?_, hn⟩⟩
      have hz : s.lenr - 2 ≠ 0 := fun hz => by rw [if_pos hz] at hd; cases hd
      exact Nat.pos_of_ne_zero fun h0 => hz (BitVec.eq_of_toNat_eq h0)

/-- R120 step 15: a visit of R_DATA stores inside the index space, and goes on only inside the payload. -/
theorem rData_bounds {s t : State} (h : rData s = some t) (hw : s.rbuf.wf)
    (hs : s.idx.toNat < s.plen.toNat ∧ s.plen.toNat ≤ s.maxl.toNat) :
    t.rbuf.wf ∧ (t.ph = .rData → t.idx.toNat < t.plen.toNat ∧ t.plen.toNat ≤ t.maxl.toNat) := by
  obtain ⟨b, bs, rfl⟩ | ⟨-, rfl⟩ := rData_cases h
  · exact ⟨hw, fun _ => hs⟩
  · have hw' := Memory.wf_write hw s.idx.toNat s.rbyte s.idx.isLt
    split
    · next hi =>
      have hidx : (s.idx + 1).toNat = s.idx.toNat + 1 := by
        have := s.plen.isLt
        bv_omega
      exact ⟨hw', fun _ => ⟨by rw [hidx]; exact hi, hs.2⟩⟩
    · exact ⟨hw', by simp⟩

/-- Every visit keeps the invariant. -/
theorem tick_inv {s t : State} (h : tick s = some t) (hs : s.Inv) : t.Inv := by
  have v := tick_visit h
  have o := tick_sameOperands h
  have hbusy : s.busy = true :=
    Bool.eq_true_of_not_eq_false fun hb => not_idle_of_tick h (hs.busy_iff.1 hb)
  have hclock : t.t0 < 2 ^ t.cfg.clkw ∧ t.tmor < 2 ^ t.cfg.clkw := by
    rw [o.cfg]
    obtain ⟨h0, hr⟩ | ⟨x, h0, hr | ⟨y, hr⟩⟩ := v.clock
    · exact ⟨h0 ▸ hs.t0_lt, hr ▸ hs.tmor_lt⟩
    · obtain ⟨-, -, hack, -, hlow, hsettle, hhold⟩ := hs.config
      have htmo := hs.tmo_lt
      refine ⟨h0 ▸ clockValue_lt _ _, ?_⟩
      simp only [List.mem_cons, List.not_mem_nil, or_false] at hr
      obtain hr | hr | hr | hr | hr := hr <;> rw [hr] <;> assumption
    · exact ⟨h0 ▸ clockValue_lt _ _, hr ▸ clockValue_lt _ _⟩
  have hsize : t.plen.toNat ≤ 253 ∧
      (t.ph = .rData → t.idx.toNat < t.plen.toNat ∧ t.plen.toNat ≤ t.maxl.toNat) := by
    by_cases hp : s.ph = .rSize
    · simp only [tick, hp, Option.some.injEq] at h
      exact h ▸ rSize_bounds hs.plen_le
    · refine ⟨v.plen hp ▸ hs.plen_le, fun hd => ?_⟩
      have hp' : s.ph = .rData := (s.ph.rData_of_edge (hd ▸ v.edge)).resolve_left hp
      simp only [tick, hp'] at h
      exact (rData_bounds h hs.rbuf_wf (hs.store_lt hp')).2 hd
  have hend (hi : t.ph = .idle) : EndedWith t.cause.result t.cause t := (v.ends hi).1
  refine
    { config := o.cfg ▸ hs.config
      busy_iff := ?_
      result_eq := ?_
      tmo_lt := by rw [o.tmo, o.cfg]; exact hs.tmo_lt
      t0_lt := hclock.1
      tmor_lt := hclock.2
      plen_le := hsize.1
      store_lt := hsize.2
      pending := fun hr => ?_
      hdr_wf := o.hdr ▸ hs.hdr_wf
      body_wf := o.body ▸ hs.body_wf
      rbuf_wf := ?_ }
  · by_cases hi : t.ph = .idle
    · simp [hi, (hend hi).1]
    · simp [hi, (v.runs hi).1, hbusy]
  · by_cases hi : t.ph = .idle
    · exact (hend hi).2.2.1
    · obtain ⟨-, hr, hc⟩ := v.runs hi
      rw [hr, hc, hs.result_eq]
  · obtain hp | hp := s.ph.readsResponse_of_edge _ v.edge hr
    · rw [(v.pairing (fun h => by simp [h, Phase.readsResponse] at hp)
        fun h => by simp [h, Phase.readsResponse] at hp).2]
      exact hs.pending hp
    · simp only [tick, hp, Option.some.injEq] at h
      subst h
      exact rCheck_pendv fun hi => by simp [hi, Phase.readsResponse] at hr
  · by_cases hp : s.ph = .rData
    · simp only [tick, hp] at h
      exact (rData_bounds h hs.rbuf_wf (hs.store_lt hp)).1
    · exact v.rbuf hp ▸ hs.rbuf_wf

/-! ## The rest of a step -/

/-- R34: an operation starts in a phase that neither stores nor compares. -/
theorem firstPhase_quiet {c : OpCode} {ph : Phase} (h : firstPhase c = some ph) :
    ph ≠ .idle ∧ ph ≠ .rData ∧ ph.readsResponse = false := by
  unfold firstPhase at h
  split at h <;> cases h <;> decide

theorem Lands.inv {s u : State} (h : Lands s u) (hs : s.Inv) : u.Inv := by
  obtain ⟨hcfg, hbusy, hres, htmo, ht0, htmor, hplen, hstore, hpend, hhdr, hbody, hrbuf⟩ := hs
  cases h with
  | start c ph hb hp =>
    obtain ⟨hi, hd, hr⟩ := firstPhase_quiet hp
    exact ⟨hcfg, by simpa using hi, hres, htmo, ht0, htmor, by simp, by simp [hd], by simp [hr], hhdr, hbody, hrbuf⟩
  | reject c hb hp =>
    have hi := hbusy.1 hb
    exact ⟨hcfg, hbusy, rfl, htmo, ht0, htmor, by simp, by simp [hi], by simp [hi, Phase.readsResponse], hhdr, hbody,
      hrbuf⟩
  | answers ns rs as bs => exact ⟨hcfg, hbusy, hres, htmo, ht0, htmor, hplen, hstore, hpend, hhdr, hbody, hrbuf⟩

theorem HostAccess.inv {s t : State} (h : HostAccess s t) (hs : s.Inv) : t.Inv := by
  obtain ⟨hcfg, hbusy, hres, htmo, ht0, htmor, hplen, hstore, hpend, hhdr, hbody, hrbuf⟩ := id hs
  cases h with
  | latch r v =>
    unfold writeLatch
    split
    · exact hs
    · next hb =>
      have hi : s.ph = .idle := hbusy.1 (by simpa using hb)
      have hmod : v % 2 ^ s.cfg.clkw < 2 ^ s.cfg.clkw := Nat.mod_lt _ (Nat.two_pow_pos _)
      split <;>
        exact ⟨hcfg, hbusy, hres, by assumption, ht0, htmor, hplen, by simp [hi], hpend, hhdr, hbody, hrbuf⟩
  | read v n => exact ⟨hcfg, hbusy, hres, htmo, ht0, htmor, hplen, hstore, hpend, hhdr, hbody, hrbuf⟩
  | place b bs hb hl =>
    have hw {m : Memory} (hm : m.wf) : (Memory.writeBytes m 0 bs).wf := Memory.wf_writeBytes bs hm 0 (by simpa using hl)
    cases b with
    | hdr => exact ⟨hcfg, hbusy, hres, htmo, ht0, htmor, hplen, hstore, hpend, hw hhdr, hbody, hrbuf⟩
    | body => exact ⟨hcfg, hbusy, hres, htmo, ht0, htmor, hplen, hstore, hpend, hhdr, hw hbody, hrbuf⟩
    | rbuf => exact ⟨hcfg, hbusy, hres, htmo, ht0, htmor, hplen, hstore, hpend, hhdr, hbody, hw hrbuf⟩

theorem hardwareReset_inv {s : State} (hs : s.Inv) : (hardwareReset s).Inv where
  config := hs.config
  busy_iff := by simp
  result_eq := rfl
  tmo_lt := Nat.two_pow_pos _
  t0_lt := clockValue_lt _ _
  tmor_lt := clockValue_lt _ _
  plen_le := by simp
  store_lt := by simp
  pending := by simp [Phase.readsResponse]
  hdr_wf := hs.hdr_wf
  body_wf := hs.body_wf
  rbuf_wf := hs.rbuf_wf

theorem inv_inputs {s : State} (is : List Input) (hs : s.Inv) : State.Inv { s with inputs := is } := by
  obtain ⟨hcfg, hbusy, hres, htmo, ht0, htmor, hplen, hstore, hpend, hhdr, hbody, hrbuf⟩ := hs
  exact ⟨hcfg, hbusy, hres, htmo, ht0, htmor, hplen, hstore, hpend, hhdr, hbody, hrbuf⟩

/-- Settles O55: landing, every visit, every access of the host and the reset keep the invariant. -/
theorem stepKeepsInvariant : Obligations.StepKeepsInvariant := fun _ _ hs h =>
  step_keeps (fun _ is hs => inv_inputs is hs) (fun _ _ hl hs => hl.inv hs) (fun _ _ ht hs => tick_inv ht hs)
    (fun _ _ hh hs => hh.inv hs) (fun _ hs => hardwareReset_inv hs) h hs

end Sys2Proof.Machine
end

section
/-! PROOFS. The values at reset, and the host's register table. -/

namespace Sys2Proof.Machine

/-! ## Reset -/

/-- Settles O46: the literal of `State.reset` says so. -/
theorem resetValues : Obligations.ResetValues := ⟨rfl, rfl, rfl, rfl, rfl, rfl, rfl, rfl, rfl, rfl, rfl, rfl, rfl⟩

/-- R5: the constants of the reset configuration fit, the open times because they have 32 bits (entry 16). -/
theorem config_params_wf : Config.params.wf :=
  ⟨by decide, by decide, by decide, Config.rspTmo.isLt, Config.tRstLow.isLt, Config.tRstSettle.isLt,
    Config.tWakeHold.isLt⟩

theorem reset_inv : State.reset.Inv where
  config := config_params_wf
  busy_iff := by simp [State.reset]
  result_eq := rfl
  tmo_lt := Nat.two_pow_pos _
  t0_lt := Nat.two_pow_pos _
  tmor_lt := Nat.two_pow_pos _
  plen_le := by simp [State.reset]
  store_lt := by simp [State.reset]
  pending := by simp [State.reset, Phase.readsResponse]
  hdr_wf := Memory.wf_nil
  body_wf := Memory.wf_nil
  rbuf_wf := Memory.wf_nil

theorem reset_builderInv : State.reset.BuilderInv where
  length_ok := by simp [State.reset, emittedCount]
  index_ok := trivial
  staged_eq := by simp [State.reset, emittedCount]
  sum_eq := by simp [State.reset, emittedCount]
  txn_ok := by simp [State.reset, emittedCount]
  no_writes := by simp [State.reset]
  committed_ok := by simp [State.reset]

/-- Settles O58: the reset state is idle, with nothing open and nothing committed. -/
theorem resetMeetsTheInvariants : Obligations.ResetMeetsTheInvariants := ⟨reset_inv, reset_builderInv, tick_idle rfl⟩

/-! ## The register table (R30) -/

theorem statusValue_idle {s : State} (h : s.busy = false) :
    (statusValue s).toNat = (if s.pendv then 2 else 0) + (if s.rdyres then 4 else 0) := by
  cases hv : s.pendv <;> cases hr : s.rdyres <;> simp [statusValue, h, hv, hr]

/-- While busy, bit 0 is 1 and only bits 1 and 2 are free. -/
theorem statusValue_busy {s : State} (h : s.busy = true) :
    (statusValue s).toNat % 2 = 1 ∧ (statusValue s).toNat < 8 := by
  have hv : (statusValue s).toNat = (Config.freeByte 13 s.fresh).toNat &&& 6 ||| 1 := by simp [statusValue, h]
  rw [hv]
  exact ⟨Nat.or_mod_two_eq_one.2 (.inr rfl),
    Nat.or_lt_two_pow (n := 3) (Nat.and_lt_two_pow _ (by decide)) (by decide)⟩

theorem step_readReg {s : State} {r : HostReg} {rest : List Input} (h : s.inputs = .readReg r :: rest) :
    step s = .next { s with inputs := rest, rdata := readReg r s, fresh := s.fresh + 1 } := by
  have hf : fetch s = none := by simp [fetch, h]
  simp only [step, hf, h, hostInput]
  cases r <;> rfl

theorem step_writeReg {s : State} {r : HostReg} {v : Nat} {rest : List Input} (hr : r ≠ .opr)
    (h : s.inputs = .writeReg r v :: rest) : step s = .next (writeLatch r v { s with inputs := rest }) := by
  have hf : fetch s = none := by cases r <;> simp_all [fetch]
  simp only [step, hf, h, hostInput]

/-- Settles O45: what a read returns and what a write sets, register by register. -/
theorem hostRegisterTable : Obligations.HostRegisterTable := by
  refine ⟨fun s r rest h => step_readReg h, fun s v rest hb => ⟨?_, ?_, ?_, ?_, ?_⟩, fun s => ?_, rfl⟩
  · exact fun h => by simp [step_writeReg (by simp) h, writeLatch, hb]
  · exact fun h => by simp [step_writeReg (by simp) h, writeLatch, hb]
  · exact fun h => by simp [step_writeReg (by simp) h, writeLatch, hb]
  · exact fun h => by simp [step_writeReg (by simp) h, writeLatch, hb]
  · rintro r hr h
    rw [step_writeReg (by rintro rfl; simp at hr) h]
    obtain rfl | rfl | rfl | rfl := hr <;> simp [writeLatch, hb]
  · refine ⟨rfl, rfl, rfl, rfl, rfl, fun hb => ⟨statusValue_idle hb, ?_, ?_, ?_⟩, fun hb => ?_⟩
    · simp [readReg, hb]
    · simp [readReg, hb]
    · simp [readReg, hb]
    · obtain ⟨h1, h2⟩ := statusValue_busy hb
      refine ⟨h1, h2, ?_, ?_, ?_⟩ <;> simp only [readReg, hb, if_true]
      · omega
      · omega
      · exact BitVec.isLt _

end Sys2Proof.Machine
end

section
/-! PROOFS. What a run keeps of the registers that the host sees: the old result until the end, and the flags of other
operations. -/

namespace Sys2Proof.Machine

/-! ## RESULT and CAUSE -/

/-- Operation `c`, started in `s`, has got as far as `u`: in one of its phases, with the result and cause of before; or
ended, with a result that goes with its cause (R35). -/
def Underway (c : OpCode) (s u : State) : Prop :=
  u.opr = c ∧ (u.busy = true ∧ u.ph ≠ .idle ∧ u.result = s.result ∧ u.cause = s.cause ∨
    u.busy = false ∧ u.ph = .idle ∧ u.result = u.cause.result)

theorem tick_underway {c : OpCode} {s u t : State} (h : tick u = some t) (hu : Underway c s u) : Underway c s t := by
  obtain ⟨hc, ⟨hb, -, hr, hk⟩ | ⟨-, hi, -⟩⟩ := hu
  · have v := tick_visit h
    refine ⟨(tick_sameOperands h).opr.trans hc, ?_⟩
    by_cases hi : t.ph = .idle
    · obtain ⟨hb', -, hr', -⟩ := (v.ends hi).1
      exact .inr ⟨hb', hi, hr'⟩
    · obtain ⟨hb', hr', hk'⟩ := v.runs hi
      exact .inl ⟨hb'.trans hb, hi, hr'.trans hr, hk'.trans hk⟩
  · exact absurd hi (not_idle_of_tick h)

/-- Settles O44: every visit keeps the operation underway. -/
theorem oldResultStaysUntilTheEnd : Obligations.OldResultStaysUntilTheEnd := by
  intro c s hb hi
  cases hp : firstPhase c with
  | some ph =>
    have h0 : Underway c s (startOperation c ph s) := ⟨rfl, .inl ⟨rfl, (firstPhase_quiet hp).1, rfl, rfl⟩⟩
    obtain ⟨hc, h⟩ := resume_keeps (fun _ _ ht hu => tick_underway ht hu) h0
    refine ⟨_, exec_operation hb hp, hc, fun hb' => ?_, fun hb' => ?_⟩
    · simpa [hb'] using h
    · simpa [hb'] using h
  | none => exact ⟨_, exec_reserved hb hp, rfl, fun hb' => by simp [hb] at hb', fun _ => ⟨hi, rfl⟩⟩

/-! ## The flags -/

/-- The operation that a phase belongs to (R20). -/
def Phase.operation : Phase → Option OpCode
  | .idle => none
  | .bInit | .bLow | .bSettle => some 0
  | .kOpen | .kHold | .kClose => some 1
  | .wCheck | .wOpen | .wHead | .wHdr | .wBody | .wDcs | .wPost | .wCommit | .aWait | .aOpen | .aRead | .aClose
  | .aEval => some 2
  | .rCheck | .rWait | .rOpen | .rStatus | .rPre | .rSc1 | .rSc2 | .rLen | .rLcs | .rTfi | .rEcho | .rSize | .rData
  | .rDcs | .rPost | .rClose | .xClose => some 3
  | .gWait => some 4

theorem firstPhase_operation {c : OpCode} {ph : Phase} (h : firstPhase c = some ph) : ph.operation = some c := by
  unfold firstPhase at h
  split at h <;> cases h <;> rfl

/-- R34: no edge leads into another operation. -/
theorem Phase.operation_of_edge (p : Phase) : ∀ q ∈ p.successors, q = .idle ∨ q.operation = p.operation := by
  cases p <;> decide

/-- R34: no edge leads into the phases that write a flag, but from a phase of the same operation that only samples. -/
theorem Phase.writer_of_edge (p : Phase) : ∀ q ∈ p.successors,
    q ∈ [Phase.wCheck, .bInit, .bLow, .bSettle, .gWait] → p ∈ [Phase.bInit, .bLow, .bSettle, .gWait] := by
  cases p <;> decide

/-- The flags that only their operations write: the pairing record, `RDYRES` and `RSTN`. -/
structure SameFlags (s t : State) : Prop where
  pendcmd : t.pendcmd = s.pendcmd
  pendv : t.pendv = s.pendv
  rdyres : t.rdyres = s.rdyres
  rstn : t.rstn = s.rstn

/-- What a run of an operation that is not BEGIN writes of the flags. -/
structure FlagsOfOperation (c : OpCode) (s u : State) : Prop where
  within : u.ph = .idle ∨ u.ph.operation = some c
  pairing : c ≠ 2 → u.pendcmd = s.pendcmd ∧ u.pendv = s.pendv
  rdyres : c ≠ 4 → u.rdyres = s.rdyres
  rstn : u.rstn = s.rstn

theorem tick_flagsOfOperation {c : OpCode} {s u t : State} (hc : c ≠ 0) (h : tick u = some t)
    (hu : FlagsOfOperation c s u) : FlagsOfOperation c s t := by
  have v := tick_visit h
  have hop : u.ph.operation = some c := hu.within.resolve_left (not_idle_of_tick h)
  have hne {p : Phase} {d : OpCode} (hp : p.operation = some d) (hd : c ≠ d) : u.ph ≠ p := by
    rintro rfl
    exact hd (Option.some.inj (hop.symm.trans hp))
  refine ⟨?_, fun h2 => ?_, fun h4 => ?_, ?_⟩
  · exact (u.ph.operation_of_edge _ v.edge).imp_right (·.trans hop)
  · obtain ⟨hpc, hpv⟩ := v.pairing (hne rfl h2) (hne rfl hc)
    obtain ⟨hpc', hpv'⟩ := hu.pairing h2
    exact ⟨hpc.trans hpc', hpv.trans hpv'⟩
  · exact (v.rdyres (hne rfl h4) (hne rfl hc)).trans (hu.rdyres h4)
  · exact (v.rstn (hne rfl hc) (hne rfl hc)).trans hu.rstn

/-! ### Wire formats: answers for a waiting engine -/

theorem askNow_eq_none {k : Nat → State → State} {s : State} : askNow k s = none ↔ s.nows = [] := by
  unfold askNow
  split <;> simp_all

theorem askReady_eq_none {k : Bool → State → State} {s : State} : askReady k s = none ↔ s.readies = [] := by
  unfold askReady
  split <;> simp_all

/-- A readiness wait waits for a readiness sample, or else for a clock sample. -/
theorem waitVisit_eq_none {d : Nat} {yes no : State → State} {s : State} :
    waitVisit d yes no s = none ↔ if s.sub = .ready then s.readies = [] else s.nows = [] := by
  unfold waitVisit
  split <;> simp [askNow_eq_none, askReady_eq_none, *]

theorem delayVisit_eq_none {d : Nat} {done : State → State} {s : State} :
    delayVisit d done s = none ↔ s.nows = [] := by
  unfold delayVisit
  split <;> exact askNow_eq_none

/-- Accepted writes and bytes from the chip do not wake an engine that waits for a sample. -/
theorem samples_rest_more {s : State} (hp : s.ph ∈ [Phase.bLow, .bSettle, .gWait]) (h : tick s = none)
    (as : List Bool) (bs : List Byte) : tick (s.more [] [] as bs) = none := by
  have hph : (s.more [] [] as bs).ph = s.ph := rfl
  have hsub : (s.more [] [] as bs).sub = s.sub := rfl
  simp only [List.mem_cons, List.not_mem_nil, or_false] at hp
  obtain hp | hp | hp := hp <;> rw [hp] at hph <;> simp only [tick, hp, hph] at h ⊢
  · simpa [bLow, delayVisit_eq_none, State.more] using h
  · unfold bSettle at h ⊢
    rw [hsub]
    split at h <;> simp_all [delayVisit_eq_none, State.more]
  · simpa [gWait, waitVisit_eq_none, State.more] using h

/-- A wire format that reaches an engine at rest writes no flag. -/
theorem wire_sameFlags {s : State} (h : s.atRest) (as : List Bool) (bs : List Byte) :
    SameFlags s (resume (s.more [] [] as bs)) := by
  have hrest : tick s = none := h
  by_cases hp : s.ph ∈ [Phase.bLow, .bSettle, .gWait]
  · rw [resume_of_rest (samples_rest_more hp hrest as bs)]
    exact ⟨rfl, rfl, rfl, rfl⟩
  · have hw : s.ph ∉ [Phase.wCheck, .bInit, .bLow, .bSettle, .gWait] := by
      have h1 : s.ph ≠ .wCheck := fun hi => by simp [tick, hi] at hrest
      have h2 : s.ph ≠ .bInit := fun hi => by simp [tick, hi] at hrest
      simp_all
    refine (resume_keeps (P := fun u => u.ph ∉ [Phase.wCheck, .bInit, .bLow, .bSettle, .gWait] ∧ SameFlags s u)
      (s := s.more [] [] as bs) (fun u t ht hu => ?_) ⟨hw, rfl, rfl, rfl, rfl⟩).2
    obtain ⟨hu, hpc, hpv, hrr, hrs⟩ := hu
    have v := tick_visit ht
    simp only [List.mem_cons, List.not_mem_nil, or_false, not_or] at hu
    obtain ⟨h1, h2, h3, h4, h5⟩ := hu
    obtain ⟨hpc', hpv'⟩ := v.pairing h1 h2
    exact ⟨fun ht => by simpa [h2, h3, h4, h5] using u.ph.writer_of_edge _ v.edge ht, hpc'.trans hpc, hpv'.trans hpv,
      (v.rdyres h5 h2).trans hrr, (v.rstn h2 h4).trans hrs⟩

/-- Settles O53: an operation stays in its phases, and a wire format carries on only phases that write no flag. -/
theorem onlyTheirOperationsWriteTheFlags : Obligations.OnlyTheirOperationsWriteTheFlags := by
  intro i s t hs hrest h
  obtain ⟨c, rfl⟩ | ⟨as, bs, he⟩ := exec_wire_cases i s
  · cases hb : s.busy with
    | true =>
      have ht : t = s := by simpa [exec_decodeOpCode, hb] using h.symm
      simp [ht]
    | false =>
      cases hp : firstPhase c with
      | none =>
        have ht : t = rejectCode c s := by simpa [exec_reserved hb hp] using h.symm
        simp [ht]
      | some ph =>
        have ht : t = resume (startOperation c ph s) := by simpa [exec_operation hb hp] using h.symm
        by_cases hc : c = 0
        · subst hc
          exact ⟨fun _ h0 => absurd rfl h0, fun _ h0 => absurd rfl h0, fun h0 => absurd rfl h0⟩
        · have hf : FlagsOfOperation c s t := ht ▸ resume_keeps (fun _ _ ht hu => tick_flagsOfOperation hc ht hu)
            ⟨.inr (firstPhase_operation hp), fun _ => ⟨rfl, rfl⟩, fun _ => rfl, rfl⟩
          exact ⟨fun h2 _ => hf.pairing fun hc2 => h2 (hc2 ▸ rfl), fun h4 _ => hf.rdyres fun hc4 => h4 (hc4 ▸ rfl),
            fun _ => hf.rstn⟩
  · have ht : t = resume (s.more [] [] as bs) := by simpa [he] using h.symm
    obtain ⟨hpc, hpv, hrr, hrs⟩ := ht ▸ wire_sameFlags hrest as bs
    exact ⟨fun _ _ => ⟨hpc, hpv⟩, fun _ _ => hrr, fun _ => hrs⟩

end Sys2Proof.Machine
end

section
/-! PROOFS. The phase machine against the pseudocode. The machine in state `u.withLocals l` stands where the pseudocode
has reached `u`: the working registers and the sequencer's own fields are the pseudocode's local values and its place in
the text. One rule for each statement of the pseudocode says which visits follow it. -/

namespace Sys2Proof.Machine

open Pseudo (Flow)

/-! ## Places of the pseudocode -/

/-- The registers that the pseudocode keeps as local values or as its place in the text. -/
structure Locals where
  ph : Phase
  sub : SubStep
  xcause : Cause
  sum : Byte
  lenr : Byte
  echo : Byte
  st : Byte
  idx : Byte
  ackbuf : Vector Byte 7
  t0 : Nat
  tmor : Nat
  rbyte : Byte

/-- The machine's state at a place of the pseudocode. -/
def State.withLocals (u : State) (l : Locals) : State :=
  { u with
    ph := l.ph
    sub := l.sub
    xcause := l.xcause
    sum := l.sum
    lenr := l.lenr
    echo := l.echo
    st := l.st
    idx := l.idx
    ackbuf := l.ackbuf
    t0 := l.t0
    tmor := l.tmor
    rbyte := l.rbyte }

def State.locals (m : State) : Locals :=
  ⟨m.ph, m.sub, m.xcause, m.sum, m.lenr, m.echo, m.st, m.idx, m.ackbuf, m.t0, m.tmor, m.rbyte⟩

@[simp] theorem withLocals_ph (u : State) (l : Locals) : (u.withLocals l).ph = l.ph := rfl
@[simp] theorem withLocals_sub (u : State) (l : Locals) : (u.withLocals l).sub = l.sub := rfl

/-- What a statement that takes an answer leaves as it is. -/
structure Took (u v : State) : Prop where
  busy : v.busy = u.busy
  plen : v.plen = u.plen
  operands : SameOperands u v

theorem Took.same (u : State) : Took u u := ⟨rfl, rfl, .same u⟩

/-- Answers, bus and event lists are none of it. -/
theorem Took.answers (u : State) (ns : List Nat) (rs as : List Bool) (bs sg : List Byte) (x : Transaction)
    (tr : List Event) (lg : List LogEvent) :
    Took u { u with
      nows := ns, readies := rs, accepts := as, reads := bs, staged := sg, txn := x, trace := tr, log := lg } :=
  ⟨rfl, rfl, rfl, rfl, rfl, rfl, rfl, rfl, rfl, rfl, rfl, rfl⟩

theorem Took.after {u v w : State} (k : Took v w) (h : Took u v) : Took u w :=
  ⟨k.busy.trans h.busy, k.plen.trans h.plen, k.operands.after h.operands⟩

/-! ## Following the pseudocode -/

/-- The run of the machine from `m` does what the pseudocode of an operation does: it ends in the same state, or it
waits. -/
def Follows (m : State) : Flow Unit → Prop
  | .on _ _ => False
  | .ended u => resume m = u
  | .waiting => (resume m).busy = true

theorem Follows.waits {m : State} (h : tick m = none) (hb : m.busy = true) : Follows m .waiting := by
  simpa [Follows, resume_of_rest h] using hb

theorem Follows.visit {m m' : State} {f : Flow Unit} (h : tick m = some m') (hf : Follows m' f) : Follows m f := by
  cases f <;> simp_all [Follows, resume_of_tick h]

theorem follows_abort (k : Cause) (u : State) (l : Locals) : Follows (abort k (u.withLocals l)) (.ended (abort k u)) :=
  resume_of_rest (tick_idle rfl)

theorem follows_complete (u : State) (l : Locals) : Follows (complete (u.withLocals l)) (.ended (complete u)) :=
  resume_of_rest (tick_idle rfl)

/-- R161: `AbortTxn` goes through X_CLOSE. -/
theorem follows_abortTxn (k : Cause) (u : State) (l : Locals) :
    Follows (abortTxn k (u.withLocals l)) (Pseudo.abortTxn k u) :=
  .visit (m' := abort k (busEnd u)) rfl (resume_of_rest (tick_idle rfl))

theorem Flow.andThen_assoc {α β γ : Type} (x : Flow α) (k : α → State → Flow β) (g : β → State → Flow γ) :
    (x.andThen k).andThen g = x.andThen fun a s => (k a s).andThen g := by
  cases x <;> rfl

section
variable {α : Type} {u : State} {l : Locals} {g : α → State → Flow Unit}

/-! ### Statements that take an answer -/

theorem follows_now {k : Nat → State → State} {g : Nat → State → Flow Unit}
    (ht : tick (u.withLocals l) = askNow k (u.withLocals l)) (hb : u.busy = true)
    (hk : ∀ v u', Took u u' → u'.readies = u.readies → u.nows.length = u'.nows.length + 1 →
      Follows (k v (u'.withLocals l)) (g v u')) :
    Follows (u.withLocals l) ((Pseudo.now u).andThen g) := by
  unfold Pseudo.now
  cases hn : u.nows with
  | nil => exact .waits (by rw [ht, askNow_eq_none]; exact hn) hb
  | cons x xs =>
    refine .visit (m' := k (clockValue u.cfg x) (State.withLocals { u with
      nows := xs, trace := u.trace ++ [.now (clockValue u.cfg x)] } l)) ?_
      (hk _ _ (.answers u _ _ _ _ _ _ _ _) rfl (by simp [hn]))
    rw [ht, askNow, show (u.withLocals l).nows = _ from hn]
    rfl

theorem follows_ready {k : Bool → State → State} {g : Bool → State → Flow Unit}
    (ht : tick (u.withLocals l) = askReady k (u.withLocals l)) (hb : u.busy = true)
    (hk : ∀ r u', Took u u' → u.readies.length = u'.readies.length + 1 →
      Follows (k r (u'.withLocals l)) (g r u')) :
    Follows (u.withLocals l) ((Pseudo.ready u).andThen g) := by
  unfold Pseudo.ready
  cases hn : u.readies with
  | nil => exact .waits (by rw [ht, askReady_eq_none]; exact hn) hb
  | cons r rs =>
    refine .visit (m' := k r (State.withLocals { u with readies := rs, trace := u.trace ++ [.ready r] } l)) ?_
      (hk _ _ (.answers u _ _ _ _ _ _ _ _) (by simp [hn]))
    rw [ht, askReady, show (u.withLocals l).readies = _ from hn]
    rfl

theorem follows_busRead {k : Byte → State → State} {g : Byte → State → Flow Unit}
    (ht : tick (u.withLocals l) = askRead k (u.withLocals l)) (hb : u.busy = true)
    (hk : ∀ b u', Took u u' → Follows (k b (u'.withLocals l)) (g b u')) :
    Follows (u.withLocals l) ((Pseudo.busRead u).andThen g) := by
  unfold Pseudo.busRead
  cases hn : u.reads with
  | nil => exact .waits (by rw [ht, askRead, show (u.withLocals l).reads = _ from hn]) hb
  | cons b bs =>
    refine .visit (m' := k b (State.withLocals { u with
      reads := bs, txn := .reading, trace := u.trace ++ [.busRead b] } l)) ?_ (hk _ _ (.answers u _ _ _ _ _ _ _ _))
    rw [ht, askRead, show (u.withLocals l).reads = _ from hn]
    rfl

/-- R101: an accepted byte goes on, a rejected one ends both. -/
theorem follows_emit {b : Byte} {k : State → State} {g : Unit → State → Flow Unit}
    (ht : tick (u.withLocals l) = emitByte b k (u.withLocals l)) (hb : u.busy = true)
    (hk : ∀ u', Took u u' → Follows (k (u'.withLocals l)) (g () u')) :
    Follows (u.withLocals l) ((Pseudo.emit b u).andThen g) := by
  unfold Pseudo.emit
  split
  · next hn => exact .waits (by rw [ht, emitByte, askWrite, show (u.withLocals l).accepts = _ from hn]) hb
  · next as hn =>
    refine .visit (m' := k (State.withLocals (logEmitted b true { u with
      accepts := as, txn := .writing, staged := u.staged ++ [b], trace := u.trace ++ [.busWrite b true] }) l)) ?_
      (hk _ (.answers u _ _ _ _ _ _ _ _))
    rw [ht, emitByte, askWrite, show (u.withLocals l).accepts = _ from hn]
    rfl
  · next as hn =>
    refine .visit ?_ (follows_abort _ _ l)
    rw [ht, emitByte, askWrite, show (u.withLocals l).accepts = _ from hn]
    rfl

/-- A read whose byte must have one value. -/
theorem follows_expect {want : Byte} {k : Cause} {next : Phase} {g : Unit → State → Flow Unit}
    (ht : tick (u.withLocals l) = expectByte want k next (u.withLocals l)) (hb : u.busy = true)
    (hg : ∀ u', Took u u' → Follows (u'.withLocals { l with ph := next }) (g () u')) :
    Follows (u.withLocals l) ((Pseudo.expect want k u).andThen g) := by
  rw [Pseudo.expect, Flow.andThen_assoc]
  refine follows_busRead ht hb fun b u' hu => ?_
  by_cases hw : b = want
  · simp only [if_pos hw]
    exact hg u' hu
  · simp only [if_neg hw]
    exact follows_abortTxn k u' l

end

/-! ### Waits and delays -/

section
variable {u : State} {l : Locals} {d : Nat}

/-- R140: the loop of `WaitReady`, for as many readiness samples as there are. -/
theorem follows_waitLoop {yes no : State → State} {g : Bool → State → Flow Unit}
    (ht : ∀ v l', Took u v → l'.ph = l.ph → tick (v.withLocals l') = waitVisit d yes no (v.withLocals l'))
    (hb : u.busy = true)
    (hg : ∀ r v l', Took u v → Follows ((if r then yes else no) (v.withLocals l')) (g r v)) (n : Nat)
    (hn : u.readies.length = n) :
    Follows (u.withLocals { l with sub := .ready }) ((Pseudo.waitLoop l.t0 l.tmor n u).andThen g) := by
  have htick := ht u { l with sub := .ready } (.same u) rfl
  induction n generalizing u with
  | zero =>
    refine .waits ?_ hb
    rw [htick, waitVisit_eq_none, withLocals_sub, if_pos rfl]
    exact List.length_eq_zero_iff.1 hn
  | succ n ih =>
    rw [Pseudo.waitLoop, Flow.andThen_assoc]
    refine follows_ready (by rw [htick, waitVisit, withLocals_sub]) hb fun r v hv hr => ?_
    cases r with
    | true => exact hg true v _ hv
    | false =>
      simp only [Bool.false_eq_true, if_false, Flow.andThen_assoc]
      refine follows_now (l := { l with sub := .clock })
        (by rw [ht v { l with sub := .clock } hv rfl, waitVisit, withLocals_sub]) (hv.busy.trans hb)
        fun x w hw hwr _ => ?_
      have hw := hw.after hv
      have htime : timedOut (w.withLocals { l with sub := .clock }) x = decide (l.tmor ≤ elapsed w.cfg x l.t0) := rfl
      simp only [htime, decide_eq_true_eq]
      split
      · exact hg false w _ hw
      · exact ih (fun v' l' hv' => ht v' l' (hv'.after hw)) (hw.busy.trans hb)
          (fun r v' l' hv' => hg r v' l' (hv'.after hw)) (by rw [hwr]; omega) (ht w _ hw rfl)

/-- R140: `WaitReady`, in a phase that waits for at most `d`. -/
theorem follows_waitReady {yes no : State → State} {g : Bool → State → Flow Unit}
    (ht : ∀ v l', Took u v → l'.ph = l.ph → tick (v.withLocals l') = waitVisit d yes no (v.withLocals l'))
    (hb : u.busy = true) (hs : l.sub = .latch)
    (hg : ∀ r v l', Took u v → Follows ((if r then yes else no) (v.withLocals l')) (g r v)) :
    Follows (u.withLocals l) ((Pseudo.waitReady d u).andThen g) := by
  rw [Pseudo.waitReady, Flow.andThen_assoc]
  refine follows_now (by rw [ht u l (.same u) rfl, waitVisit, withLocals_sub, hs]) hb fun t0 v hv _ _ => ?_
  exact follows_waitLoop (l := { l with t0 := t0, tmor := d }) (fun w l' hw => ht w l' (hw.after hv))
    (hv.busy.trans hb) (fun r w l' hw => hg r w l' (hw.after hv)) _ rfl

/-- R92: the loop of `Delay`, for as many clock samples as there are. -/
theorem follows_delayLoop {done : State → State} {g : Unit → State → Flow Unit}
    (ht : ∀ v l', Took u v → l'.ph = l.ph → l'.sub ≠ .entry →
      tick (v.withLocals l') = delayVisit d done (v.withLocals l'))
    (hb : u.busy = true) (hg : ∀ v l', Took u v → Follows (done (v.withLocals l')) (g () v)) (n : Nat)
    (hn : u.nows.length = n) :
    Follows (u.withLocals { l with sub := .clock }) ((Pseudo.delayLoop l.t0 l.tmor n u).andThen g) := by
  have htick := ht u { l with sub := .clock } (.same u) rfl (by simp)
  induction n generalizing u with
  | zero =>
    refine .waits ?_ hb
    rw [htick, delayVisit_eq_none]
    exact List.length_eq_zero_iff.1 hn
  | succ n ih =>
    rw [Pseudo.delayLoop, Flow.andThen_assoc]
    refine follows_now (by rw [htick, delayVisit, withLocals_sub]) hb fun x v hv _ hr => ?_
    have htime : timedOut (v.withLocals { l with sub := .clock }) x = decide (l.tmor ≤ elapsed v.cfg x l.t0) := rfl
    simp only [htime, decide_eq_true_eq]
    split
    · exact hg v _ hv
    · exact ih (fun w l' hw => ht w l' (hw.after hv)) (hv.busy.trans hb) (fun w l' hw => hg w l' (hw.after hv))
        (by omega) (ht v _ hv rfl (by simp))

/-- R92: `Delay(d)`, in a phase that delays for `d`. -/
theorem follows_delay {done : State → State} {g : Unit → State → Flow Unit}
    (ht : ∀ v l', Took u v → l'.ph = l.ph → l'.sub ≠ .entry →
      tick (v.withLocals l') = delayVisit d done (v.withLocals l'))
    (hb : u.busy = true) (hs : l.sub = .latch) (hg : ∀ v l', Took u v → Follows (done (v.withLocals l')) (g () v)) :
    Follows (u.withLocals l) ((Pseudo.delay d u).andThen g) := by
  rw [Pseudo.delay, Flow.andThen_assoc]
  refine follows_now (by rw [ht u l (.same u) rfl (by simp [hs]), delayVisit, withLocals_sub, hs]) hb
    fun t0 v hv _ _ => ?_
  exact follows_delayLoop (l := { l with t0 := t0, tmor := d }) (fun w l' hw => ht w l' (hw.after hv))
    (hv.busy.trans hb) (fun w l' hw => hg w l' (hw.after hv)) _ rfl

end

/-! ## BEGIN, WAKE, WAIT_READY -/

section
variable {u : State} {l : Locals}

theorem follows_begin (hb : u.busy = true) (hs : l.sub = .latch) (hp : l.ph = .bInit) :
    Follows (u.withLocals l) (Pseudo.begin u) := by
  let u₁ := rstLine false (busInit (scrub
    { u with pendv := false, rdyres := false, pendcmd := Config.freeByte 12 u.fresh }))
  cases l
  cases hp
  cases hs
  refine .visit rfl (.visit rfl ?_)
  refine follows_delay (u := u₁) (l := { State.locals u₁ with xcause := _, ph := .bLow, sub := .latch })
    (done := fun s => { s with ph := .bSettle, sub := .entry }) (fun v l' hv hl _ => ?_) hb rfl fun v l' hv => ?_
  · simp only [tick, withLocals_ph, hl, bLow]
    rw [show (v.withLocals l').cfg = u₁.cfg from hv.operands.cfg]
  · refine .visit rfl ?_
    refine follows_delay (u := rstLine true v) (l := { l' with ph := .bSettle, sub := .latch })
      (done := complete) (fun w l'' hw hl hne => ?_) (hv.busy.trans hb) rfl fun w l'' hw => follows_complete w l''
    simp only [tick, withLocals_ph, hl, bSettle, withLocals_sub]
    rw [show (w.withLocals l'').cfg = v.cfg from hw.operands.cfg]
    split <;> simp_all

theorem follows_wake (hb : u.busy = true) (hp : l.ph = .kOpen) : Follows (u.withLocals l) (Pseudo.wake u) := by
  refine .visit (m' := (busBegin u).withLocals { l with ph := .kHold, sub := .latch })
    (by simp only [tick, withLocals_ph, hp]; rfl) ?_
  refine follows_delay (done := fun s => { s with ph := .kClose, sub := .latch }) (fun v l' hv hl _ => ?_) hb rfl
    fun v l' hv => ?_
  · simp only [tick, withLocals_ph, hl, kHold]
    rw [show (v.withLocals l').cfg = u.cfg from hv.operands.cfg]
  · exact .visit rfl (follows_complete (busEnd v) l')

theorem follows_waitReadyOp (hb : u.busy = true) (hs : l.sub = .latch) (hp : l.ph = .gWait) :
    Follows (u.withLocals l) (Pseudo.waitReadyOp u) := by
  refine follows_waitReady (yes := fun s => complete { s with rdyres := true })
    (no := fun s => complete { s with rdyres := false }) (fun v l' hv hl => ?_) hb hs fun r v l' hv => ?_
  · simp only [tick, withLocals_ph, hl, hp, gWait]
    rw [show (v.withLocals l').tmo = u.tmo from hv.operands.tmo]
  · cases r
    · exact follows_complete { v with rdyres := false } l'
    · exact follows_complete { v with rdyres := true } l'

end

end Sys2Proof.Machine
end

section
/-! PROOFS. The visits of READ_RESPONSE follow its pseudocode, read by read and check by check. -/

namespace Sys2Proof.Machine

open Pseudo (Flow)

/-! ## READ_RESPONSE -/

/-- R120 step 15: the payload loop, from a byte of the payload on. -/
theorem follows_payloadLoop {g : Byte → State → Flow Unit} (n : Nat) {u : State} {l : Locals} (hb : u.busy = true)
    (hn : l.idx.toNat + (n + 1) = u.plen.toNat)
    (hg : ∀ sum (v : State) (l' : Locals), v.busy = true →
      Follows (v.withLocals { l' with ph := .rDcs, sum := sum }) (g sum v)) :
    Follows (u.withLocals { l with ph := .rData, sub := .latch })
      ((Pseudo.payloadLoop (n + 1) l.idx.toNat l.sum u).andThen g) := by
  induction n generalizing u l with
  | zero =>
    rw [Pseudo.payloadLoop, Flow.andThen_assoc]
    refine follows_busRead (k := fun b s => { s with rbyte := b, sub := .ready }) rfl hb fun b v hv => ?_
    have hlast : ¬l.idx.toNat + 1 < v.plen.toNat := by rw [hv.plen]; omega
    refine .visit (m' := State.withLocals { v with rbuf := Memory.write v.rbuf l.idx.toNat b }
      { l with rbyte := b, sub := .latch, ph := .rDcs, sum := sumAdd l.sum b }) ?_
      (hg _ _ { l with rbyte := b, sub := .latch } (hv.busy.trans hb))
    exact congrArg some (if_neg hlast)
  | succ n ih =>
    rw [Pseudo.payloadLoop, Flow.andThen_assoc]
    refine follows_busRead (k := fun b s => { s with rbyte := b, sub := .ready }) rfl hb fun b v hv => ?_
    have hmore : l.idx.toNat + 1 < v.plen.toNat := by rw [hv.plen]; omega
    have hidx : (l.idx + 1).toNat = l.idx.toNat + 1 := by bv_omega
    refine .visit (m' := State.withLocals { v with rbuf := Memory.write v.rbuf l.idx.toNat b }
      { l with rbyte := b, sub := .latch, ph := .rData, sum := sumAdd l.sum b, idx := l.idx + 1 }) ?_ ?_
    · exact congrArg some (if_pos hmore)
    · rw [← hidx]
      exact ih (l := { l with rbyte := b, sum := sumAdd l.sum b, idx := l.idx + 1 }) (hv.busy.trans hb)
        (by show (l.idx + 1).toNat + (n + 1) = v.plen.toNat; rw [hv.plen]; omega)

/-- A check that both make. -/
theorem follows_ite {P Q : Prop} [Decidable P] [Decidable Q] {m m' : State} {f f' : Flow Unit} (h : Q ↔ P)
    (hy : P → Follows m f) (hn : ¬P → Follows m' f') : Follows (if Q then m else m') (if P then f else f') := by
  by_cases hp : P
  · rw [if_pos (h.2 hp), if_pos hp]
    exact hy hp
  · rw [if_neg (mt h.1 hp), if_neg hp]
    exact hn hp

/-- A check that both make: the machine asks whether it holds, the pseudocode whether it fails. -/
theorem follows_check {P Q : Prop} [Decidable P] [Decidable Q] {m m' : State} {f f' : Flow Unit} (h : Q ↔ ¬P)
    (hok : Follows m f) (hfail : Follows m' f') : Follows (if Q then m else m') (if P then f' else f) := by
  by_cases hp : P
  · rwa [if_neg (fun hq => h.1 hq hp), if_pos hp]
  · rwa [if_pos (h.2 hp), if_neg hp]

theorem echoOk_iff (pendcmd echo : Byte) : echoOk pendcmd echo = true ↔ echo.toNat = pendcmd.toNat + 1 := by
  simp only [echoOk, beq_iff_eq, ← BitVec.toNat_inj, zext9, BitVec.toNat_add, BitVec.toNat_setWidth,
    BitVec.ofNat_eq_ofNat, BitVec.toNat_ofNat]
  omega

/-- R120 steps 16 to 19: the check of `DCS`, the postamble, the end. -/
theorem follows_rDcs (sum : Byte) (u : State) (l : Locals) (hb : u.busy = true) :
    Follows (u.withLocals { l with ph := .rDcs, sum := sum }) ((Pseudo.busRead u).andThen fun dcs s =>
      if dcsOk sum dcs = false then Pseudo.abortTxn .badDcs { s with log := s.log ++ [.checksumFailure] }
      else (Pseudo.busRead s).andThen fun _ s => .ended (complete (busEnd s))) := by
  refine follows_busRead (.trans (b := rDcs _) rfl rfl) hb fun dcs v hv => ?_
  refine follows_check (iff_of_eq (Bool.not_eq_false _)).symm ?_ ?_
  · refine follows_busRead (l := { l with sum := sum, ph := .rPost }) (.trans (b := rPost _) rfl rfl)
      (hv.busy.trans hb) fun _ w _ => ?_
    exact .visit rfl (follows_complete (busEnd w) l)
  · exact follows_abortTxn .badDcs { v with log := v.log ++ [.checksumFailure] } { l with ph := .rDcs, sum := sum }

/-- R120 steps 12 to 15: the length checks, then the payload. -/
theorem follows_rSize {u : State} {l : Locals} {g : Byte → State → Flow Unit} (hb : u.busy = true)
    (hg : ∀ sum (v : State) (l' : Locals), v.busy = true →
      Follows (v.withLocals { l' with ph := .rDcs, sum := sum }) (g sum v)) :
    Follows (u.withLocals { l with ph := .rSize })
      (if l.lenr.toNat < 2 then Pseudo.abortTxn .lenTooShort u
        else if u.maxl.toNat < (l.lenr - 2).toNat then Pseudo.abortTxn .noSpace { u with plen := l.lenr - 2 }
        else
          (Pseudo.payloadLoop (l.lenr - 2).toNat 0 (sumAdd 0xD5 l.echo) { u with plen := l.lenr - 2 }).andThen g) := by
  refine .visit (m' := rSize _) rfl ?_
  refine follows_ite decide_eq_true_iff (fun _ => follows_abortTxn _ u _) fun _ => ?_
  refine follows_ite decide_eq_true_iff (fun _ => follows_abortTxn _ { u with plen := l.lenr - 2 } _) fun _ => ?_
  show Follows (State.withLocals { u with plen := l.lenr - 2 } { l with
    sum := sumAdd 0xD5 l.echo, idx := 0, ph := if l.lenr - 2 = 0 then .rDcs else .rData, sub := .latch }) _
  by_cases hz : l.lenr - 2 = 0
  · rw [if_pos hz, hz]
    exact hg _ _ { l with idx := 0, sub := .latch } hb
  · obtain ⟨n, hn⟩ := Nat.exists_eq_succ_of_ne_zero fun h0 => hz (BitVec.eq_of_toNat_eq h0)
    rw [if_neg hz, hn]
    exact follows_payloadLoop n (l := { l with idx := 0, sum := sumAdd 0xD5 l.echo }) hb
      ((Nat.zero_add _).trans hn.symm) hg

/-- R120 steps 4 to 19. -/
theorem follows_parseResponse {u : State} {l : Locals} (hb : u.busy = true) :
    Follows (u.withLocals { l with ph := .rStatus }) (Pseudo.parseResponse u) := by
  unfold Pseudo.parseResponse
  refine follows_busRead (.trans (b := rStatus _) rfl rfl) hb fun st u₁ hu => ?_
  replace hb := hu.busy.trans hb
  refine follows_check (iff_of_eq (Bool.not_eq_false _)).symm ?_ (follows_abortTxn _ _ { l with st := st })
  refine follows_expect (u := u₁) (l := { l with st := st, ph := .rPre }) rfl hb fun u hu => ?_
  replace hb := hu.busy.trans hb
  refine follows_expect rfl hb fun u hu => ?_
  replace hb := hu.busy.trans hb
  refine follows_expect rfl hb fun u hu => ?_
  replace hb := hu.busy.trans hb
  refine follows_busRead (.trans (b := rLen _) rfl rfl) hb fun len u₂ hu => ?_
  replace hb := hu.busy.trans hb
  refine follows_busRead (u := u₂) (l := { l with st := st, lenr := len, ph := .rLcs })
    (.trans (b := rLcs _) rfl rfl) hb fun lcs u₃ hu => ?_
  replace hb := hu.busy.trans hb
  refine follows_check (iff_of_eq (Bool.not_eq_false _)).symm ?_ (follows_abortTxn _ _ _)
  refine follows_expect (u := u₃) (l := { l with st := st, lenr := len, ph := .rTfi }) rfl hb fun u hu => ?_
  replace hb := hu.busy.trans hb
  refine follows_busRead (.trans (b := rEcho _) rfl rfl) hb fun echo u hu => ?_
  replace hb := hu.busy.trans hb
  refine follows_check ((echoOk_iff _ _).trans not_not.symm) ?_
    (follows_abortTxn _ u { l with st := st, lenr := len, echo := echo, ph := .rEcho })
  exact follows_rSize (l := { l with st := st, lenr := len, echo := echo }) hb follows_rDcs

theorem follows_readResponse {u : State} {l : Locals} (hb : u.busy = true) :
    Follows (u.withLocals { l with ph := .rCheck }) (Pseudo.readResponse u) := by
  refine .visit (m' := rCheck _) rfl (follows_check (iff_of_eq (Bool.not_eq_false _)).symm ?_ (follows_abort _ _ _))
  refine follows_waitReady (l := { l with ph := .rWait, sub := .latch })
    (yes := fun s => { s with ph := .rOpen, sub := .latch }) (no := abort .rspWaitTimeout) (fun v l' hv hl => ?_) hb rfl
    fun r v l' hv => ?_
  · simp only [tick, withLocals_ph, hl, rWait]
    rw [show (v.withLocals l').tmo = u.tmo from hv.operands.tmo]
  · cases r
    · exact follows_abort .rspWaitTimeout v l'
    · exact .visit rfl (follows_parseResponse (u := busBegin v) (l := { l' with sub := .latch }) (hv.busy.trans hb))

end Sys2Proof.Machine
end

section
/-! PROOFS. The visits of WRITE_COMMAND and of its ACK_CHECK follow their pseudocode, and with them those of all five
operations. -/

namespace Sys2Proof.Machine

open Pseudo (Flow)

/-! ## ACK_CHECK -/

theorem Follows.of_eq {m m' : State} {f : Flow Unit} (h : m = m') (hf : Follows m' f) : Follows m f := h ▸ hf

theorem take_set_succ {α : Type} {xs : List α} {i : Nat} (h : i < xs.length) (b : α) :
    (xs.set i b).take (i + 1) = xs.take i ++ [b] := by
  simp [List.take_succ_eq_append_getElem, List.take_set_of_le, h]

/-- R110 step 3: the reads of ACK_CHECK fill `ACKBUF` from index `IDX` on. -/
theorem follows_readBytes {g : List Byte → State → Flow Unit} (n : Nat) {u : State} {l : Locals} (hb : u.busy = true)
    (hn : l.idx.toNat + n = 6)
    (hg : ∀ bs (v : State) (l' : Locals), v.busy = true →
      l'.ackbuf.toList = l.ackbuf.toList.take l.idx.toNat ++ bs →
      Follows (v.withLocals { l' with ph := .aClose }) (g bs v)) :
    Follows (u.withLocals { l with ph := .aRead }) ((Pseudo.readBytes (n + 1) u).andThen g) := by
  induction n generalizing u l g with
  | zero =>
    rw [Pseudo.readBytes, Flow.andThen_assoc]
    refine follows_busRead (.trans (b := aRead _) rfl rfl) hb fun b v hv => ?_
    have hlast : ¬l.idx.toNat < 6 := by omega
    refine .of_eq (if_neg hlast)
      (hg [b] v { l with ackbuf := l.ackbuf.setIfInBounds l.idx.toNat b } (hv.busy.trans hb) ?_)
    have h6 : l.idx.toNat = 6 := hn
    rw [← take_set_succ (by simp [h6]), Vector.toList_setIfInBounds, List.take_of_length_le (by simp [h6])]
  | succ n ih =>
    rw [Pseudo.readBytes, Flow.andThen_assoc]
    refine follows_busRead (.trans (b := aRead _) rfl rfl) hb fun b v hv => ?_
    have hmore : l.idx.toNat < 6 := by omega
    have hidx : (l.idx + 1).toNat = l.idx.toNat + 1 := by bv_omega
    rw [Flow.andThen_assoc]
    refine .of_eq (if_pos hmore) (ih (l := { l with
      ackbuf := l.ackbuf.setIfInBounds l.idx.toNat b, idx := l.idx + 1 }) (hv.busy.trans hb) ?_ ?_)
    · show (l.idx + 1).toNat + n = 6
      omega
    · intro bs w l' hw hbuf
      refine hg (b :: bs) w l' hw (hbuf.trans ?_)
      show ((l.ackbuf.setIfInBounds l.idx.toNat b).toList.take (l.idx + 1).toNat) ++ bs = _
      rw [hidx, Vector.toList_setIfInBounds, take_set_succ (by simp; omega), List.append_assoc]
      rfl

theorem toList_seven (buf : Vector Byte 7) :
    buf.toList = [buf[0], buf[1], buf[2], buf[3], buf[4], buf[5], buf[6]] := by
  refine List.ext_getElem (by simp) fun i _ hi => ?_
  simp only [List.length_cons, List.length_nil] at hi
  interval_cases i <;> simp

/-- R110 steps 5 to 7: the verdict on the bytes in the order in which they came. -/
theorem ackVerdict_of_toList {buf : Vector Byte 7} {st : Byte} {rest : List Byte} (h : buf.toList = st :: rest) :
    ackVerdict buf = if st.getLsbD 0 = false then .ackStatusNotReady
      else if rest ≠ ackRom then .ackPatternMismatch else .none := by
  obtain ⟨rfl, rfl⟩ := List.cons.inj ((toList_seven buf).symm.trans h)
  simp [ackVerdict, statusReady]

theorem aEval_eq (s : State) :
    aEval s = if ackVerdict s.ackbuf = .none then complete s else abort (ackVerdict s.ackbuf) s := by
  unfold aEval
  split <;> simp_all

theorem follows_aEval {u : State} {l : Locals} {st : Byte} {rest : List Byte} (h : l.ackbuf.toList = st :: rest) :
    Follows (aEval (u.withLocals l))
      (if st.getLsbD 0 = false then .ended (abort .ackStatusNotReady u)
        else if rest ≠ ackRom then .ended (abort .ackPatternMismatch u)
        else .ended (complete u)) := by
  rw [aEval_eq, show (u.withLocals l).ackbuf = l.ackbuf from rfl, ackVerdict_of_toList h]
  by_cases hst : st.getLsbD 0 = false
  · simpa only [if_pos hst, reduceCtorEq, if_false] using follows_abort _ u l
  · by_cases hr : rest ≠ ackRom
    · simpa only [if_neg hst, if_pos hr, reduceCtorEq, if_false] using follows_abort _ u l
    · simpa only [if_neg hst, if_neg hr, if_true] using follows_complete u l

theorem follows_ackCheck {u : State} {l : Locals} (hb : u.busy = true) :
    Follows (u.withLocals { l with ph := .aWait, sub := .latch }) (Pseudo.ackCheck u) := by
  refine follows_waitReady (l := { l with ph := .aWait, sub := .latch })
    (yes := fun s => { s with ph := .aOpen, sub := .latch }) (no := abort .ackWaitTimeout) (fun v l' hv hl => ?_) hb rfl
    fun r v l' hv => ?_
  · simp only [tick, withLocals_ph, hl, aWait]
    rw [show (v.withLocals l').cfg = u.cfg from hv.operands.cfg]
  · cases r
    · exact follows_abort .ackWaitTimeout v l'
    · refine .visit rfl (follows_readBytes 6 (u := busBegin v) (l := { l' with sub := .latch, idx := 0 })
        (hv.busy.trans hb) rfl fun bs w l'' hw hbuf => ?_)
      have hbuf : l''.ackbuf.toList = bs := by simpa using hbuf
      refine .visit (m' := State.withLocals (busEnd w) { l'' with ph := .aEval }) rfl ?_
      refine .visit (m' := aEval (State.withLocals (busEnd w) { l'' with ph := .aEval })) rfl ?_
      cases bs with
      | nil => simp [toList_seven] at hbuf
      | cons st rest => exact follows_aEval hbuf

/-! ## WRITE_COMMAND -/

theorem emitAll_append (xs ys : List Byte) (s : State) :
    Pseudo.emitAll (xs ++ ys) s = (Pseudo.emitAll xs s).andThen fun _ s => Pseudo.emitAll ys s := by
  induction xs generalizing s with
  | nil => rfl
  | cons x xs ih => simp only [List.cons_append, Pseudo.emitAll, Flow.andThen_assoc, ih]

/-- R100 steps 12 and 13: the loop that emits the bytes of one buffer, from index `IDX` on. The phase sums each byte and
goes on with the next index, or with the registers `next` after the last one. -/
theorem follows_emitLoop {m : Memory} {len : Nat} {k : Byte → State → State} {next : Locals → Locals} {p : Phase}
    {g : Unit → State → Flow Unit} (hlen : len < 256) (n : Nat) {u : State} {l : Locals} (hb : u.busy = true)
    (hp : l.ph = p) (hn : l.idx.toNat + (n + 1) = len)
    (ht : ∀ v l', Took u v → l'.ph = p → tick (v.withLocals l') =
      emitByte (m.read l'.idx.toNat) (k (m.read l'.idx.toNat)) (v.withLocals l'))
    (hk : ∀ b v (l' : Locals), Took u v → k b (v.withLocals l') = v.withLocals
      (if l'.idx.toNat + 1 < len then { l' with sum := sumAdd l'.sum b, idx := l'.idx + 1 }
        else next { l' with sum := sumAdd l'.sum b }))
    (hg : ∀ v (l' : Locals), Took u v →
      Follows (v.withLocals (next { l' with sum := sumBytes l.sum (m.readBytes l.idx.toNat (n + 1)) })) (g () v)) :
    Follows (u.withLocals l) ((Pseudo.emitAll (m.readBytes l.idx.toNat (n + 1)) u).andThen g) := by
  induction n generalizing u l with
  | zero =>
    rw [Memory.readBytes, Pseudo.emitAll, Flow.andThen_assoc]
    refine follows_emit (ht u l (.same u) hp) hb fun v hv => ?_
    rw [hk _ _ _ hv, if_neg (by omega)]
    exact hg v l hv
  | succ n ih =>
    have hidx : (l.idx + 1).toNat = l.idx.toNat + 1 := by bv_omega
    rw [Memory.readBytes, Pseudo.emitAll, Flow.andThen_assoc]
    refine follows_emit (ht u l (.same u) hp) hb fun v hv => ?_
    rw [hk _ _ _ hv, if_pos (by omega), ← hidx]
    refine ih (hv.busy.trans hb) hp (by show (l.idx + 1).toNat + (n + 1) = len; omega)
      (fun w l' hw => ht w l' (hw.after hv)) (fun b w l' hw => hk b w l' (hw.after hv)) fun w l' hw => ?_
    rw [hidx]
    exact hg w l' (hw.after hv)

/-- R100 steps 6 to 10: a byte of W_HEAD before the last. -/
theorem follows_headByte {u : State} {l : Locals} {g : Unit → State → Flow Unit} {b i : Byte} (hb : u.busy = true)
    (hi : i.toNat < 5) (hbyte : headByte (u.withLocals { l with ph := .wHead, idx := i }) = b)
    (hg : ∀ v, Took u v → Follows (v.withLocals { l with ph := .wHead, idx := i + 1 }) (g () v)) :
    Follows (u.withLocals { l with ph := .wHead, idx := i }) ((Pseudo.emit b u).andThen g) := by
  subst hbyte
  refine follows_emit (.trans (b := wHead _) rfl rfl) hb fun v hv => ?_
  exact .of_eq (if_pos hi) (hg v hv)

/-- R100 steps 6 to 11. -/
theorem follows_head {u : State} {l : Locals} {g : Unit → State → Flow Unit} (hb : u.busy = true)
    (hg : ∀ v (l' : Locals), Took u v →
      Follows (v.withLocals { l' with sum := 0xD4, idx := 0, ph := .wHdr }) (g () v)) :
    Follows (u.withLocals { l with ph := .wHead, idx := 0 })
      ((Pseudo.emitAll [0x00, 0x00, 0xFF, l.lenr, lcsGen l.lenr, 0xD4] u).andThen g) := by
  simp only [Pseudo.emitAll, Flow.andThen_assoc]
  refine follows_headByte hb (by decide) rfl fun v hv => ?_
  refine follows_headByte (hv.busy.trans hb) (by decide) rfl fun v' hv' => ?_
  replace hv := hv'.after hv
  refine follows_headByte (hv.busy.trans hb) (by decide) rfl fun v' hv' => ?_
  replace hv := hv'.after hv
  refine follows_headByte (hv.busy.trans hb) (by decide) rfl fun v' hv' => ?_
  replace hv := hv'.after hv
  refine follows_headByte (hv.busy.trans hb) (by decide) rfl fun v' hv' => ?_
  replace hv := hv'.after hv
  refine follows_emit (.trans (b := wHead _) rfl rfl) (hv.busy.trans hb) fun v' hv' => ?_
  exact .of_eq (if_neg (show ¬(5 < 5) by decide)) (hg v' l (hv'.after hv))

/-- R100 step 12. -/
theorem follows_wHdr {m : Memory} {n : Byte} {u : State} {l : Locals} {g : Unit → State → Flow Unit}
    (hb : u.busy = true) (hm : u.hdr = m) (hn : u.hlen = n) (hne : n ≠ 0)
    (hg : ∀ v (l' : Locals), Took u v → Follows (v.withLocals { l' with
      sum := sumBytes l.sum (m.readBytes 0 n.toNat), idx := 0, ph := if u.blen = 0 then .wDcs else .wBody }) (g () v)) :
    Follows (u.withLocals { l with ph := .wHdr, idx := 0 }) ((Pseudo.emitAll (m.readBytes 0 n.toNat) u).andThen g) := by
  obtain ⟨k, hk⟩ := Nat.exists_eq_succ_of_ne_zero fun h0 => hne (BitVec.eq_of_toNat_eq h0)
  rw [hk] at hg ⊢
  refine follows_emitLoop (p := .wHdr) (l := { l with ph := .wHdr, idx := 0 })
    (next := fun l => { l with idx := 0, ph := if u.blen = 0 then .wDcs else .wBody })
    (k := fun b s =>
      let s := { s with sum := sumAdd s.sum b }
      if s.idx.toNat + 1 < s.hlen.toNat then { s with idx := s.idx + 1 }
      else { s with idx := 0, ph := if s.blen = 0 then .wDcs else .wBody })
    n.isLt k hb rfl ((Nat.zero_add _).trans hk.symm) (fun v l' hv hl => ?_) (fun b v l' hv => ?_) hg
  · simp only [tick, withLocals_ph, hl, wHdr, readHdr]
    rw [show (v.withLocals l').hdr = m from hv.operands.hdr.trans hm]
    rfl
  · rw [← hn, ← hv.operands.hlen, ← hv.operands.blen, apply_ite v.withLocals]
    rfl

/-- R100 step 13, skipped when there is no body byte (R34). -/
theorem follows_wBody {m : Memory} {n : Byte} {u : State} {l : Locals} {g : Unit → State → Flow Unit}
    (hb : u.busy = true) (hm : u.body = m) (hn : u.blen = n)
    (hg : ∀ v (l' : Locals), Took u v → Follows (v.withLocals { l' with
      sum := sumBytes l.sum (m.readBytes 0 n.toNat), ph := .wDcs }) (g () v)) :
    Follows (u.withLocals { l with idx := 0, ph := if n = 0 then .wDcs else .wBody })
      ((Pseudo.emitAll (m.readBytes 0 n.toNat) u).andThen g) := by
  by_cases hz : n = 0
  · rw [if_pos hz]
    subst hz
    exact hg u { l with idx := 0 } (.same u)
  · obtain ⟨k, hk⟩ := Nat.exists_eq_succ_of_ne_zero fun h0 => hz (BitVec.eq_of_toNat_eq h0)
    rw [if_neg hz]
    rw [hk] at hg ⊢
    refine follows_emitLoop (p := .wBody) (l := { l with idx := 0, ph := .wBody })
      (next := fun l => { l with ph := .wDcs })
      (k := fun b s =>
        let s := { s with sum := sumAdd s.sum b }
        if s.idx.toNat + 1 < s.blen.toNat then { s with idx := s.idx + 1 } else { s with ph := .wDcs })
      n.isLt k hb rfl ((Nat.zero_add _).trans hk.symm) (fun v l' hv hl => ?_) (fun b v l' hv => ?_) hg
    · simp only [tick, withLocals_ph, hl, wBody, readBody]
      rw [show (v.withLocals l').body = m from hv.operands.body.trans hm]
      rfl
    · rw [← hn, ← hv.operands.blen, apply_ite v.withLocals]
      rfl

/-- R100 steps 14 to 16. -/
theorem follows_tail {p : Params} {u : State} {l : Locals} {g : Unit → State → Flow Unit} (hb : u.busy = true)
    (hp : u.cfg = p)
    (hg : ∀ v (l' : Locals), v.busy = true → Follows (v.withLocals { l' with ph := .wCommit }) (g () v)) :
    Follows (u.withLocals { l with ph := .wDcs })
      ((Pseudo.emitAll [dcsGen l.sum, p.postamble] u).andThen g) := by
  simp only [Pseudo.emitAll, Flow.andThen_assoc]
  refine follows_emit (.trans (b := wDcs _) rfl rfl) hb fun v hv => ?_
  refine follows_emit (u := v) (l := { l with ph := .wPost }) (k := fun s => { s with ph := .wCommit }) ?_
    (hv.busy.trans hb) fun w hw => hg w l (hw.busy.trans (hv.busy.trans hb))
  rw [← hp, ← hv.operands.cfg]
  rfl

theorem sumBytes_append (seed : Byte) (xs ys : List Byte) : sumBytes seed (xs ++ ys) = sumBytes (sumBytes seed xs) ys :=
  List.foldl_append

theorem follows_writeCommand {u : State} {l : Locals} (hb : u.busy = true) :
    Follows (u.withLocals { l with ph := .wCheck }) (Pseudo.writeCommand u) := by
  refine .visit (m' := wCheck _) rfl ?_
  refine follows_ite Iff.rfl (fun _ => follows_abort .hdrEmpty u l) fun hne => ?_
  refine follows_ite decide_eq_true_iff
    (fun _ => follows_abort .tooLong { u with pendcmd := readHdr u 0, pendv := true } l) fun _ => ?_
  refine .visit rfl ?_
  simp only [emitAll_append, Flow.andThen_assoc, sumBytes_append]
  refine follows_head (u := busBegin { u with pendcmd := readHdr u 0, pendv := true })
    (l := { l with lenr := BitVec.ofNat 8 (frameLen u.hlen u.blen) }) hb fun v l' hv => ?_
  refine follows_wHdr (l := { l' with sum := 0xD4 }) (hv.busy.trans hb) hv.operands.hdr hv.operands.hlen hne
    fun v' l' hv' => ?_
  rw [hv.operands.blen]
  replace hv := hv'.after hv
  refine follows_wBody (l := { l' with sum := _ }) (hv.busy.trans hb) hv.operands.body hv.operands.blen
    fun v' l' hv' => ?_
  replace hv := hv'.after hv
  refine follows_tail (l := { l' with sum := _ }) (hv.busy.trans hb) hv.operands.cfg fun v l' hb => ?_
  exact .visit rfl (follows_ackCheck (u := busEnd v) (l := l') hb)

/-! ## The operations -/

/-- Where the pseudocode of an operation ends, if it does not wait. -/
def Flow.final : Flow Unit → Option State
  | .ended u => some u
  | .on _ _ | .waiting => none

/-- The pseudocode of an operation that starts in `s` (R35), and the machine at its first phase. -/
theorem exec_of_follows {c : OpCode} {ph : Phase} {s : State} {f : Flow Unit} (hb : s.busy = false)
    (hp : firstPhase c = some ph) (hf : Pseudo.finalState c s = Flow.final f)
    (h : Follows ((startOperation c .idle s).withLocals { (startOperation c .idle s).locals with ph := ph }) f) :
    match Pseudo.finalState c s with
    | some t => exec (decodeOpCode c) s = .next t
    | none => ∃ t, exec (decodeOpCode c) s = .next t ∧ t.busy = true := by
  have he : exec (decodeOpCode c) s = .next (resume (startOperation c ph s)) := exec_operation hb hp
  rw [hf]
  cases f with
  | on _ _ => exact h.elim
  | ended u => exact he.trans (congrArg _ h)
  | waiting => exact ⟨_, he, h⟩

/-- Settles O23: operation by operation, each visit follows the text of the pseudocode. -/
theorem phaseMachineIsThePseudocode : Obligations.PhaseMachineIsThePseudocode := by
  intro c s hb hc
  obtain ⟨⟨n, hn⟩⟩ := c
  have hc : n ≤ 4 := hc
  interval_cases n
  · exact exec_of_follows hb rfl rfl (follows_begin rfl rfl rfl)
  · exact exec_of_follows hb rfl rfl (follows_wake rfl rfl)
  · exact exec_of_follows hb rfl rfl (follows_writeCommand rfl)
  · exact exec_of_follows hb rfl rfl (follows_readResponse rfl)
  · exact exec_of_follows hb rfl rfl (follows_waitReadyOp rfl rfl rfl)

end Sys2Proof.Machine
end

section
/-! PROOFS. The working registers do not matter: two runs from states that differ only in registers that the phase has
not written yet stay in such states, visit by visit. -/

namespace Sys2Proof.Machine

/-! ## States that differ in registers that are not live -/

/-- The registers that an observer of the host and the bus does not see, and `PENDCMD`. -/
structure Work where
  pendcmd : Byte
  sum : Byte
  lenr : Byte
  echo : Byte
  st : Byte
  idx : Byte
  ackbuf : Vector Byte 7
  t0 : Nat
  tmor : Nat
  rbyte : Byte
  rdata : Nat
  log : List LogEvent
  fresh : Nat

def State.work (s : State) : Work :=
  ⟨s.pendcmd, s.sum, s.lenr, s.echo, s.st, s.idx, s.ackbuf, s.t0, s.tmor, s.rbyte, s.rdata, s.log, s.fresh⟩

def State.withWork (s : State) (w : Work) : State :=
  { s with
    pendcmd := w.pendcmd
    sum := w.sum
    lenr := w.lenr
    echo := w.echo
    st := w.st
    idx := w.idx
    ackbuf := w.ackbuf
    t0 := w.t0
    tmor := w.tmor
    rbyte := w.rbyte
    rdata := w.rdata
    log := w.log
    fresh := w.fresh }

/-- The registers that a phase or one behind it still reads, written by the phases before it, have the same values in
`w`. -/
def LiveEq (s : State) (w : Work) : Prop :=
  match s.ph with
  | .wOpen => w.lenr = s.lenr
  | .wHead => w.lenr = s.lenr ∧ w.idx = s.idx
  | .wHdr | .wBody => w.sum = s.sum ∧ w.idx = s.idx
  | .wDcs | .rDcs => w.sum = s.sum
  | .aRead => w.idx = s.idx ∧ w.ackbuf.toList.take s.idx.toNat = s.ackbuf.toList.take s.idx.toNat
  | .aClose | .aEval => w.ackbuf = s.ackbuf
  | .rOpen | .rStatus | .rPre | .rSc1 | .rSc2 | .rLen => w.pendcmd = s.pendcmd
  | .rLcs | .rTfi | .rEcho => w.pendcmd = s.pendcmd ∧ w.lenr = s.lenr
  | .rSize => w.lenr = s.lenr ∧ w.echo = s.echo
  | .rData => w.sum = s.sum ∧ w.idx = s.idx ∧ (s.sub = .ready → w.rbyte = s.rbyte)
  | .aWait | .rWait | .gWait | .bLow | .bSettle | .kHold =>
    (s.ph = .rWait → w.pendcmd = s.pendcmd) ∧
      (s.sub = .ready ∨ s.sub = .clock → w.t0 = s.t0 ∧ w.tmor = s.tmor)
  | .idle | .wCheck | .wPost | .wCommit | .aOpen | .rCheck | .rPost | .rClose | .bInit | .kOpen | .kClose | .xClose =>
    True

/-- `s` with the registers of `w` differs from it only in registers that nothing reads before it is written: `PENDCMD`
while it is not recorded (R12), the working registers that the phase has not written yet (R13), what the host has read,
and the log. -/
structure Fits (s : State) (w : Work) : Prop where
  pendcmd : s.pendv = true → w.pendcmd = s.pendcmd
  live : LiveEq s w

/-- Two states that differ only so. -/
def Agree (s s' : State) : Prop := ∃ w, s' = s.withWork w ∧ Fits s w

/-! ## A visit keeps them so -/

theorem Fits.live_at {s : State} {w : Work} {p : Phase} (h : Fits s w) (hp : s.ph = p) :
    LiveEq { s with ph := p } w :=
  hp ▸ h.live

theorem LiveEq.of_ph {s : State} {w : Work} {p : Phase} (hp : s.ph = p) (h : LiveEq { s with ph := p } w) :
    LiveEq s w := by
  subst hp
  exact h

section
variable {s : State} {w : Work} (hf : s.pendv = true → w.pendcmd = s.pendcmd)
include hf

theorem agree_abort (k : Cause) : Agree (abort k s) (abort k (s.withWork w)) :=
  ⟨(abort k (s.withWork w)).work, rfl, hf, trivial⟩

theorem agree_complete : Agree (complete s) (complete (s.withWork w)) := agree_abort hf .none

theorem agree_abortTxn (k : Cause) : Agree (abortTxn k s) (abortTxn k (s.withWork w)) := ⟨w, rfl, hf, trivial⟩

end

section
variable {s : State} {w : Work} (hf : Fits s w)
include hf

/-- A clock sample is taken by both or by neither. -/
theorem askNow_agree {k k' : Nat → State → State} (hk : ∀ x v, v.ph = s.ph → v.sub = s.sub → Fits v w →
    Agree (k x v) (k' x (v.withWork w))) : Option.Rel Agree (askNow k s) (askNow k' (s.withWork w)) := by
  unfold askNow
  rw [show (s.withWork w).nows = s.nows from rfl]
  split
  · exact .none
  · exact .some (hk _ { s with nows := _, trace := _ } rfl rfl ⟨hf.pendcmd, hf.live⟩)

/-- A readiness sample is taken by both or by neither. -/
theorem askReady_agree {k k' : Bool → State → State} (hk : ∀ r v, v.ph = s.ph → v.sub = s.sub → Fits v w →
    Agree (k r v) (k' r (v.withWork w))) : Option.Rel Agree (askReady k s) (askReady k' (s.withWork w)) := by
  unfold askReady
  rw [show (s.withWork w).readies = s.readies from rfl]
  split
  · exact .none
  · exact .some (hk _ { s with readies := _, trace := _ } rfl rfl ⟨hf.pendcmd, hf.live⟩)

/-- A byte from the bus is taken by both or by neither. -/
theorem askRead_agree {k k' : Byte → State → State} (hk : ∀ b v, v.ph = s.ph → v.sub = s.sub → Fits v w →
    Agree (k b v) (k' b (v.withWork w))) : Option.Rel Agree (askRead k s) (askRead k' (s.withWork w)) := by
  unfold askRead
  rw [show (s.withWork w).reads = s.reads from rfl]
  split
  · exact .none
  · exact .some (hk _ { s with reads := _, txn := _, trace := _ } rfl rfl ⟨hf.pendcmd, hf.live⟩)

/-- The same byte is emitted by both or by neither; only the log may differ. -/
theorem emitByte_agree {b : Byte} {k k' : State → State}
    (hk : ∀ v w', v.ph = s.ph → Fits v w' → Agree (k v) (k' (v.withWork w'))) :
    Option.Rel Agree (emitByte b k s) (emitByte b k' (s.withWork w)) := by
  unfold emitByte askWrite
  rw [show (s.withWork w).accepts = s.accepts from rfl]
  split
  · exact .none
  · next a as _ =>
    cases a with
    | true =>
      exact .some (hk (logEmitted b true _) { w with log := w.log ++ [.emitted b] } rfl ⟨hf.pendcmd, hf.live⟩)
    | false =>
      exact .some ⟨(abort .writeRejected (logEmitted b false (s.withWork w))).work, rfl, hf.pendcmd, trivial⟩

end

theorem agree_ite {P Q : Prop} [Decidable P] [Decidable Q] {a a' b b' : State} (h : Q ↔ P) (hy : P → Agree a a')
    (hn : ¬P → Agree b b') : Agree (if P then a else b) (if Q then a' else b') := by
  by_cases hp : P
  · rw [if_pos (h.2 hp), if_pos hp]
    exact hy hp
  · rw [if_neg (mt h.1 hp), if_neg hp]
    exact hn hp

/-- The phases that take clock samples. -/
def Phase.waits : Phase → Bool
  | .aWait | .rWait | .gWait | .bLow | .bSettle | .kHold => true
  | _ => false

/-- In a wait or delay, `T0` and `TMOR` are read once they have been latched. -/
theorem liveEq_waits {s : State} {w : Work} (hp : s.ph.waits = true) :
    LiveEq s w ↔ (s.ph = .rWait → w.pendcmd = s.pendcmd) ∧
      (s.sub = .ready ∨ s.sub = .clock → w.t0 = s.t0 ∧ w.tmor = s.tmor) := by
  unfold LiveEq
  cases h : s.ph
  case aWait | rWait | gWait | bLow | bSettle | kHold => exact Iff.rfl
  all_goals simp [h, Phase.waits] at hp

section
variable {s : State} {w : Work} (hf : Fits s w) (hp : s.ph.waits = true) {d : Nat}
include hf hp

/-- The latch of a wait or delay writes `T0` and `TMOR`. -/
theorem latch_agree (x : SubStep) : Option.Rel Agree
    (askNow (fun v s => { s with t0 := v, tmor := d, sub := x }) s)
    (askNow (fun v s => { s with t0 := v, tmor := d, sub := x }) (s.withWork w)) :=
  askNow_agree hf fun t v hv _ h => ⟨{ w with t0 := t, tmor := d }, rfl, h.pendcmd,
    (liveEq_waits (by exact hv ▸ hp)).2 ⟨((liveEq_waits (hv ▸ hp)).1 h.live).1, fun _ => ⟨rfl, rfl⟩⟩⟩

/-- Behind the latch both see the same time pass. -/
theorem timeout_agree {done : State → State} {x : SubStep} (hs : s.sub = .ready ∨ s.sub = .clock)
    (hd : ∀ v, v.ph = s.ph → Fits v w → Agree (done v) (done (v.withWork w))) : Option.Rel Agree
    (askNow (fun v s => if timedOut s v then done s else { s with sub := x }) s)
    (askNow (fun v s => if timedOut s v then done s else { s with sub := x }) (s.withWork w)) := by
  refine askNow_agree hf fun t v hv hvs h => ?_
  obtain ⟨hpc, hclock⟩ := (liveEq_waits (hv ▸ hp)).1 h.live
  obtain ⟨ht0, htmor⟩ := hclock (hvs ▸ hs)
  refine agree_ite ?_ (fun _ => hd v hv h) fun _ =>
    ⟨w, rfl, h.pendcmd, (liveEq_waits (by exact hv ▸ hp)).2 ⟨hpc, fun _ => ⟨ht0, htmor⟩⟩⟩
  simp only [timedOut, ← ht0, ← htmor]
  exact Iff.rfl

theorem waitVisit_agree {yes no : State → State}
    (hy : ∀ v, v.ph = s.ph → Fits v w → Agree (yes v) (yes (v.withWork w)))
    (hn : ∀ v, v.ph = s.ph → Fits v w → Agree (no v) (no (v.withWork w))) :
    Option.Rel Agree (waitVisit d yes no s) (waitVisit d yes no (s.withWork w)) := by
  unfold waitVisit
  rw [show (s.withWork w).sub = s.sub from rfl]
  split
  · exact latch_agree hf hp _
  · exact latch_agree hf hp _
  · next hs =>
    refine askReady_agree hf fun r v hv hvs h => agree_ite Iff.rfl (fun _ => hy v hv h) fun _ => ?_
    have hl := (liveEq_waits (hv ▸ hp)).1 h.live
    exact ⟨w, rfl, h.pendcmd, (liveEq_waits (by exact hv ▸ hp)).2 ⟨hl.1, fun _ => hl.2 (.inl (hvs.trans hs))⟩⟩
  · next hs => exact timeout_agree hf hp (.inr hs) hn

theorem delayVisit_agree {done : State → State}
    (hd : ∀ v, v.ph = s.ph → Fits v w → Agree (done v) (done (v.withWork w))) :
    Option.Rel Agree (delayVisit d done s) (delayVisit d done (s.withWork w)) := by
  unfold delayVisit
  rw [show (s.withWork w).sub = s.sub from rfl]
  split
  · exact latch_agree hf hp _
  · exact latch_agree hf hp _
  · next hs => exact timeout_agree hf hp (.inl hs) hd
  · next hs => exact timeout_agree hf hp (.inr hs) hd

end

theorem take_setIfInBounds_succ {n : Nat} (xs ys : Vector Byte n) (i : Nat) (b : Byte)
    (h : xs.toList.take i = ys.toList.take i) :
    (xs.setIfInBounds i b).toList.take (i + 1) = (ys.setIfInBounds i b).toList.take (i + 1) := by
  simp only [Vector.toList_setIfInBounds]
  by_cases hi : i < n
  · rw [take_set_succ (by simpa using hi), take_set_succ (by simpa using hi), h]
  · rw [List.set_eq_of_length_le (by simpa using hi), List.set_eq_of_length_le (by simpa using hi)]
    rwa [List.take_of_length_le (by simp; omega), List.take_of_length_le (by simp; omega)] at h ⊢

/-- A byte that must have one value: both go on with their registers, or both abort. -/
theorem expectByte_agree {s : State} {w : Work} (hf : Fits s w) {want : Byte} {k : Cause} {next : Phase}
    (hn : ∀ v, v.ph = s.ph → Fits v w → LiveEq { v with ph := next } w) :
    Option.Rel Agree (expectByte want k next s) (expectByte want k next (s.withWork w)) :=
  askRead_agree hf fun _ v hv _ h =>
    agree_ite Iff.rfl (fun _ => ⟨w, rfl, h.pendcmd, hn v hv h⟩) fun _ => agree_abortTxn h.pendcmd k

section
variable {s : State} {w : Work}

/-- R100 steps 6 to 11: the bytes emitted are a matter of `IDX` and `LENR`. -/
theorem wHead_agree (hf : Fits s w) (hp : s.ph = .wHead) :
    Option.Rel Agree (wHead s) (wHead (s.withWork w)) := by
  obtain ⟨hlenr, hidx⟩ := hf.live_at hp
  have hb : headByte (s.withWork w) = headByte s := by simp_all [headByte, State.withWork]
  unfold wHead
  rw [hb]
  refine emitByte_agree hf fun v w hv h => ?_
  obtain ⟨hlenr, hidx⟩ := h.live_at (hv.trans hp)
  exact agree_ite (by rw [← hidx]; rfl)
    (fun _ => ⟨{ w with idx := w.idx + 1 }, rfl, h.pendcmd,
      .of_ph (hv.trans hp) ⟨hlenr, congrArg (· + 1) hidx⟩⟩)
    fun _ => ⟨{ w with idx := 0, sum := 0xD4 }, rfl, h.pendcmd, rfl, rfl⟩

/-- R100 step 12. -/
theorem wHdr_agree (hf : Fits s w) (hp : s.ph = .wHdr) :
    Option.Rel Agree (wHdr s) (wHdr (s.withWork w)) := by
  have hl := hf.live_at hp
  have hb : readHdr (s.withWork w) (s.withWork w).idx.toNat = readHdr s s.idx.toNat := by
    rw [show (s.withWork w).idx = s.idx from hl.2]
    rfl
  unfold wHdr
  rw [hb]
  refine emitByte_agree hf fun v w hv h => ?_
  obtain ⟨hsum, hidx⟩ := h.live_at (hv.trans hp)
  refine agree_ite (by rw [← hidx]; rfl)
    (fun _ => ⟨{ w with sum := sumAdd w.sum _, idx := w.idx + 1 }, rfl, h.pendcmd,
      .of_ph (hv.trans hp) ⟨congrArg (sumAdd · _) hsum, congrArg (· + 1) hidx⟩⟩)
    fun _ => ⟨{ w with sum := sumAdd w.sum _, idx := 0 }, rfl, h.pendcmd, ?_⟩
  by_cases hz : v.blen = 0
  · exact .of_ph (if_pos hz) (congrArg (sumAdd · _) hsum)
  · exact .of_ph (if_neg hz) ⟨congrArg (sumAdd · _) hsum, rfl⟩

/-- R100 step 13. -/
theorem wBody_agree (hf : Fits s w) (hp : s.ph = .wBody) :
    Option.Rel Agree (wBody s) (wBody (s.withWork w)) := by
  have hl := hf.live_at hp
  have hb : readBody (s.withWork w) (s.withWork w).idx.toNat = readBody s s.idx.toNat := by
    rw [show (s.withWork w).idx = s.idx from hl.2]
    rfl
  unfold wBody
  rw [hb]
  refine emitByte_agree hf fun v w hv h => ?_
  obtain ⟨hsum, hidx⟩ := h.live_at (hv.trans hp)
  exact agree_ite (by rw [← hidx]; rfl)
    (fun _ => ⟨{ w with sum := sumAdd w.sum _, idx := w.idx + 1 }, rfl, h.pendcmd,
      .of_ph (hv.trans hp) ⟨congrArg (sumAdd · _) hsum, congrArg (· + 1) hidx⟩⟩)
    fun _ => ⟨{ w with sum := sumAdd w.sum _ }, rfl, h.pendcmd, congrArg (sumAdd · _) hsum⟩

/-- R110 step 3: the bytes of `ACKBUF` below `IDX` are those read in this operation. -/
theorem aRead_agree (hf : Fits s w) (hp : s.ph = .aRead) :
    Option.Rel Agree (aRead s) (aRead (s.withWork w)) := by
  unfold aRead
  refine askRead_agree hf fun b v hv _ h => ?_
  obtain ⟨hidx, hbuf⟩ := h.live_at (hv.trans hp)
  have hbuf : (w.ackbuf.setIfInBounds w.idx.toNat b).toList.take (v.idx.toNat + 1) =
      (v.ackbuf.setIfInBounds v.idx.toNat b).toList.take (v.idx.toNat + 1) := by
    rw [show w.idx = v.idx from hidx]
    exact take_setIfInBounds_succ _ _ _ b hbuf
  refine agree_ite (by rw [← hidx]; rfl) (fun (hi : v.idx.toNat < 6) => ?_) fun (hi : ¬v.idx.toNat < 6) => ?_
  · have hsucc : (v.idx + 1).toNat = v.idx.toNat + 1 := by bv_omega
    exact ⟨{ w with ackbuf := w.ackbuf.setIfInBounds w.idx.toNat b, idx := w.idx + 1 }, rfl, h.pendcmd,
      .of_ph (hv.trans hp) ⟨congrArg (· + 1) hidx, by simpa only [hsucc] using hbuf⟩⟩
  · rw [List.take_of_length_le (by simp; omega), List.take_of_length_le (by simp; omega)] at hbuf
    exact ⟨{ w with ackbuf := w.ackbuf.setIfInBounds w.idx.toNat b }, rfl, h.pendcmd, Vector.toList_inj.1 hbuf⟩

/-- R120 steps 12 to 14: `PLEN` and the sum come from `LENR` and the echo. -/
theorem rSize_agree (hf : Fits s w) (hp : s.ph = .rSize) :
    Option.Rel Agree (some (rSize s)) (some (rSize (s.withWork w))) := by
  have hpc := hf.pendcmd
  obtain ⟨hlenr, hecho⟩ : w.lenr = s.lenr ∧ w.echo = s.echo := hf.live_at hp
  have hw : s.withWork w = s.withWork { w with lenr := s.lenr, echo := s.echo } := by rw [← hlenr, ← hecho]
  rw [hw]
  refine .some (agree_ite Iff.rfl (fun _ => ?_) fun _ => agree_ite Iff.rfl (fun _ => ?_) fun _ => ?_)
  · exact agree_abortTxn (w := { w with lenr := s.lenr, echo := s.echo }) hpc _
  · exact agree_abortTxn (s := { s with plen := s.lenr - 2 }) (w := { w with lenr := s.lenr, echo := s.echo }) hpc _
  · refine ⟨{ w with lenr := s.lenr, echo := s.echo, sum := sumAdd 0xD5 s.echo, idx := 0 }, rfl, hpc, ?_⟩
    by_cases hz : s.lenr - 2 = 0
    · exact .of_ph (if_pos hz) rfl
    · exact .of_ph (if_neg hz) ⟨rfl, rfl, nofun⟩

/-- R120 step 15: `RBYTE` is stored and summed after it is read. -/
theorem rData_agree (hf : Fits s w) (hp : s.ph = .rData) :
    Option.Rel Agree (rData s) (rData (s.withWork w)) := by
  have hpc := hf.pendcmd
  unfold rData
  rw [show (s.withWork w).sub = s.sub from rfl]
  split
  case h_4 hs =>
    obtain ⟨hsum, hidx, hbyte⟩ : w.sum = s.sum ∧ w.idx = s.idx ∧ (s.sub = .ready → w.rbyte = s.rbyte) :=
      hf.live_at hp
    have hw : s.withWork w = s.withWork { w with sum := s.sum, idx := s.idx, rbyte := s.rbyte } := by
      rw [← hsum, ← hidx, ← hbyte hs]
    rw [hw]
    refine .some (agree_ite Iff.rfl (fun _ => ?_) fun _ => ?_)
    · exact ⟨{ w with sum := sumAdd s.sum s.rbyte, idx := s.idx + 1, rbyte := s.rbyte }, rfl, hpc,
        .of_ph hp ⟨rfl, rfl, nofun⟩⟩
    · exact ⟨{ w with sum := sumAdd s.sum s.rbyte, idx := s.idx, rbyte := s.rbyte }, rfl, hpc, rfl⟩
  all_goals
    refine askRead_agree hf fun b v hv _ h => ?_
    obtain ⟨hsum, hidx, -⟩ := h.live_at (hv.trans hp)
    exact ⟨{ w with rbyte := b }, rfl, h.pendcmd, .of_ph (hv.trans hp) ⟨hsum, hidx, fun _ => rfl⟩⟩

end

/-- R13: a phase reads only registers that agree, so both take the same branch and write the same values. -/
theorem tick_agree {s s' : State} (h : Agree s s') : Option.Rel Agree (tick s) (tick s') := by
  obtain ⟨w, rfl, hf⟩ := h
  have hpc := hf.pendcmd
  have hsub : (s.withWork w).sub = s.sub := rfl
  unfold tick
  rw [show (s.withWork w).ph = s.ph from rfl]
  cases hp : s.ph <;> have hl := hf.live_at hp <;> dsimp only
  case idle => exact .none
  case wCheck =>
    refine .some (agree_ite Iff.rfl (fun _ => agree_abort hpc _) fun _ => agree_ite Iff.rfl (fun _ => ?_) fun _ => ?_)
    · exact agree_abort (s := { s with pendcmd := readHdr s 0, pendv := true })
        (w := { w with pendcmd := readHdr s 0 }) (fun _ => rfl) _
    · exact ⟨{ w with pendcmd := readHdr s 0, lenr := BitVec.ofNat 8 (frameLen s.hlen s.blen) }, rfl, fun _ => rfl, rfl⟩
  case wOpen => exact .some ⟨{ w with idx := 0 }, rfl, hpc, hl, rfl⟩
  case wHead => exact wHead_agree hf hp
  case wHdr => exact wHdr_agree hf hp
  case wBody => exact wBody_agree hf hp
  case wDcs =>
    unfold wDcs
    rw [show (s.withWork w).sum = s.sum from hl]
    exact emitByte_agree hf fun v w hv h => ⟨w, rfl, h.pendcmd, trivial⟩
  case wPost => exact emitByte_agree hf fun v w hv h => ⟨w, rfl, h.pendcmd, trivial⟩
  case wCommit => exact .some ⟨w, rfl, hpc, nofun, nofun⟩
  case aWait =>
    exact waitVisit_agree hf (hp ▸ rfl) (fun v _ h => ⟨w, rfl, h.pendcmd, trivial⟩)
      fun v _ h => agree_abort h.pendcmd _
  case aOpen => exact .some ⟨{ w with idx := 0 }, rfl, hpc, rfl, rfl⟩
  case aRead => exact aRead_agree hf hp
  case aClose => exact .some ⟨w, rfl, hpc, hl⟩
  case aEval =>
    rw [aEval_eq, aEval_eq, show (s.withWork w).ackbuf = s.ackbuf from hl]
    exact .some (agree_ite Iff.rfl (fun _ => agree_complete hpc) fun _ => agree_abort hpc _)
  case rCheck =>
    exact .some (agree_ite Iff.rfl (fun h => ⟨w, rfl, hpc, fun _ => hpc h, nofun⟩) fun _ => agree_abort hpc _)
  case rWait =>
    exact waitVisit_agree hf (hp ▸ rfl) (fun v hv h => ⟨w, rfl, h.pendcmd, (h.live_at (hv.trans hp)).1 rfl⟩)
      fun v _ h => agree_abort h.pendcmd _
  case rOpen => exact .some ⟨w, rfl, hpc, hl⟩
  case rStatus =>
    refine askRead_agree hf fun b v hv _ h => ?_
    have hpend : w.pendcmd = v.pendcmd := h.live_at (hv.trans hp)
    exact agree_ite Iff.rfl (fun _ => ⟨{ w with st := b }, rfl, h.pendcmd, hpend⟩)
      fun _ => ⟨{ w with st := b }, rfl, h.pendcmd, trivial⟩
  case rPre | rSc1 | rSc2 =>
    refine expectByte_agree hf fun v hv h => ?_
    have hpend : w.pendcmd = v.pendcmd := h.live_at (hv.trans hp)
    exact hpend
  case rTfi =>
    refine expectByte_agree hf fun v hv h => ?_
    have hlive : w.pendcmd = v.pendcmd ∧ w.lenr = v.lenr := h.live_at (hv.trans hp)
    exact hlive
  case rLen =>
    refine askRead_agree hf fun b v hv _ h => ?_
    have hpend : w.pendcmd = v.pendcmd := h.live_at (hv.trans hp)
    exact ⟨{ w with lenr := b }, rfl, h.pendcmd, hpend, rfl⟩
  case rLcs =>
    refine askRead_agree hf fun b v hv _ h => ?_
    obtain ⟨hpend, hlenr⟩ := h.live_at (hv.trans hp)
    exact agree_ite (by rw [← hlenr]; rfl) (fun _ => ⟨w, rfl, h.pendcmd, hpend, hlenr⟩)
      fun _ => agree_abortTxn h.pendcmd _
  case rEcho =>
    refine askRead_agree hf fun b v hv _ h => ?_
    obtain ⟨hpend, hlenr⟩ := h.live_at (hv.trans hp)
    exact agree_ite (by rw [← hpend]; rfl) (fun _ => ⟨{ w with echo := b }, rfl, h.pendcmd, hlenr, rfl⟩)
      fun _ => ⟨{ w with echo := b }, rfl, h.pendcmd, trivial⟩
  case rSize => exact rSize_agree hf hp
  case rData => exact rData_agree hf hp
  case rDcs =>
    refine askRead_agree hf fun b v hv _ h => ?_
    have hsum : w.sum = v.sum := h.live_at (hv.trans hp)
    exact agree_ite (by rw [← hsum]; rfl) (fun _ => ⟨w, rfl, h.pendcmd, trivial⟩)
      fun _ => ⟨{ w with log := w.log ++ [.checksumFailure] }, rfl, h.pendcmd, trivial⟩
  case rPost => exact askRead_agree hf fun b v hv _ h => ⟨w, rfl, h.pendcmd, trivial⟩
  case rClose | kClose => exact .some (agree_complete (s := busEnd s) hpc)
  case gWait =>
    exact waitVisit_agree hf (hp ▸ rfl) (fun v _ h => agree_complete (s := { v with rdyres := true }) h.pendcmd)
      fun v _ h => agree_complete (s := { v with rdyres := false }) h.pendcmd
  case bInit =>
    unfold bInit
    rw [hsub]
    split
    · exact .some ⟨State.work _, rfl, nofun, .of_ph hp trivial⟩
    · exact .some ⟨State.work _, rfl, nofun, .of_ph hp trivial⟩
    all_goals exact .some ⟨w, rfl, hpc, nofun, nofun⟩
  case bLow => exact delayVisit_agree hf (hp ▸ rfl) fun v _ h => ⟨w, rfl, h.pendcmd, nofun, nofun⟩
  case bSettle =>
    unfold bSettle
    rw [hsub]
    split
    · exact .some ⟨w, rfl, hpc, .of_ph hp ⟨nofun, nofun⟩⟩
    all_goals exact delayVisit_agree hf (hp ▸ rfl) fun v _ h => agree_complete h.pendcmd
  case kOpen => exact .some ⟨w, rfl, hpc, nofun, nofun⟩
  case kHold => exact delayVisit_agree hf (hp ▸ rfl) fun v _ h => ⟨w, rfl, h.pendcmd, trivial⟩
  case xClose => exact .some (agree_abort (s := busEnd s) hpc _)

/-! ## A run keeps them so -/

theorem runVisits_agree (n : Nat) {s s' : State} (h : Agree s s') : Agree (runVisits n s) (runVisits n s') := by
  induction n generalizing s s' with
  | zero => exact h
  | succ n ih =>
    have ht := tick_agree h
    unfold runVisits
    cases h1 : tick s <;> cases h2 : tick s' <;> rw [h1, h2] at ht <;> cases ht
    case none.none => exact h
    case some.some hst => exact ih hst

theorem resume_agree {s s' : State} (h : Agree s s') : Agree (resume s) (resume s') := by
  have hn : visitsLeft s' = visitsLeft s := by
    obtain ⟨w, rfl, -⟩ := h
    rfl
  rw [resume, resume, hn]
  exact runVisits_agree _ h

/-! ## What an observer sees -/

theorem Agree.alike {s s' : State} (h : Agree s s') : Alike s s' := by
  obtain ⟨w, rfl, hf⟩ := h
  constructor
  case pendcmd => exact fun hp => (hf.pendcmd hp).symm
  all_goals rfl

/-- What an observer sees, and the sequencer's own fields, is all but the working registers. -/
theorem Alike.eq_withWork {s s' : State} (h : Alike s s') (hs : s.sub = s'.sub) (hx : s.xcause = s'.xcause) :
    s' = s.withWork s'.work := by
  cases s
  cases s'
  obtain ⟨⟩ := h
  simp_all [State.withWork, State.work]

/-- R35: no phase in which an operation starts reads a working register. -/
theorem startOperation_agree {c : OpCode} {ph : Phase} {s s' : State} (hp : firstPhase c = some ph) (h : Alike s s') :
    Agree (startOperation c ph s) (startOperation c ph s') := by
  refine ⟨(startOperation c ph s').work, ?_, fun hv => (h.pendcmd hv).symm, ?_⟩
  · refine Alike.eq_withWork ?_ rfl rfl
    obtain ⟨⟩ := h
    constructor
    case busy | ph | opr | plen => rfl
    all_goals assumption
  · unfold firstPhase at hp
    split at hp <;> cases hp
    all_goals simp [LiveEq]

/-- R35: an operation that starts in two such states leaves two such states. -/
theorem operation_alike {c : OpCode} {ph : Phase} {s s' : State} (hp : firstPhase c = some ph) (h : Alike s s') :
    Alike (resume (startOperation c ph s)) (resume (startOperation c ph s')) :=
  (resume_agree (startOperation_agree hp h)).alike

theorem rejectCode_alike (c : OpCode) {s s' : State} (h : Alike s s') : Alike (rejectCode c s) (rejectCode c s') := by
  obtain ⟨⟩ := h
  constructor
  case opr | plen | result | cause => rfl
  all_goals assumption

theorem offer_alike (bs : List Byte) {s s' : State} (h : Alike s s') : Alike (offer bs s) (offer bs s') := by
  have hreads : s.reads ++ bs = s'.reads ++ bs := congrArg (· ++ bs) h.reads
  obtain ⟨⟩ := h
  constructor <;> assumption

/-- While the engine is idle, bytes on the bus only wait for the next read transaction (entry 10). -/
theorem exec_wire_of_idle (i : Instr) :
    (∃ c, i = decodeOpCode c) ∨ ∃ bs, ∀ s, s.ph = .idle → exec i s = .next (offer bs s) := by
  obtain hc | ⟨bs, h⟩ := instr_cases i
  · exact .inl hc
  refine .inr ⟨bs, fun s hi => ?_⟩
  have hd : deliver bs s = offer bs s := resume_of_rest (tick_idle hi)
  have ha : aboutToEmit bs s = false := by simp [aboutToEmit, hi]
  obtain h | h := h s <;> simpa [ha, hd] using h

/-- Settles O54: both runs start in states that agree, and each visit keeps them so. -/
theorem workingRegistersNeverMatter : Obligations.WorkingRegistersNeverMatter := by
  intro i s s' t hb hi h he
  obtain ⟨c, rfl⟩ | ⟨bs, hexec⟩ := exec_wire_of_idle i
  · have hb' : s'.busy = false := h.busy ▸ hb
    cases hp : firstPhase c with
    | some ph =>
      cases (exec_operation hb hp).symm.trans he
      exact ⟨_, exec_operation hb' hp, operation_alike hp h⟩
    | none =>
      cases (exec_reserved hb hp).symm.trans he
      exact ⟨_, exec_reserved hb' hp, rejectCode_alike c h⟩
  · cases (hexec s hi).symm.trans he
    exact ⟨_, hexec s' (h.ph ▸ hi), offer_alike bs h⟩

end Sys2Proof.Machine
end

section
/-! PROOFS. Only whole command frames go out: the bytes of the frame for the operands, position by position; what a
visit emits is the next of them; and only W_COMMIT ends a transaction that carries writes. -/

namespace Sys2Proof.Machine

/-! ## The bytes of the command frame -/

theorem Memory.readBytes_getElem? (m : Memory) {i n j : Nat} (h : j < n) :
    (Memory.readBytes m i n)[j]? = some (Memory.read m (i + j)) := by
  induction n generalizing i j with
  | zero => omega
  | succ n ih =>
    cases j with
    | zero => rfl
    | succ j =>
      rw [Memory.readBytes, List.getElem?_cons_succ, ih (by omega)]
      congr 2
      omega

theorem commandData_length (s : State) : (commandData s).length = s.hlen.toNat + s.blen.toNat := by
  simp [commandData]

theorem commandData_hdr {s : State} {j : Nat} (h : j < s.hlen.toNat) : (commandData s)[j]? = some (readHdr s j) := by
  rw [commandData, List.getElem?_append_left (by simpa using h), Memory.readBytes_getElem? _ h, readHdr, Nat.zero_add]

theorem commandData_body {s : State} {j : Nat} (h : j < s.blen.toNat) :
    (commandData s)[s.hlen.toNat + j]? = some (readBody s j) := by
  rw [commandData, List.getElem?_append_right (by simp), Memory.readBytes_length, Nat.add_sub_cancel_left,
    Memory.readBytes_getElem? _ h, readBody, Nat.zero_add]

/-- R62: the command frame with the `LEN` that W_CHECK leaves in `LENR` (R67). -/
theorem commandFrame_eq {s : State} (h : s.lenr.toNat = frameLen s.hlen s.blen) :
    commandFrame s = [0x00, 0x00, 0xFF, s.lenr, lcsGen s.lenr, 0xD4] ++
      (commandData s ++ [dcsGen (sumBytes 0xD4 (commandData s)), s.cfg.postamble]) := by
  have hlen : BitVec.ofNat 8 ((commandData s).length + 1) = s.lenr := by
    rw [commandData_length, ← frameLen, ← h, BitVec.ofNat_toNat, BitVec.setWidth_eq]
  simp [commandFrame, generalFrame, hlen]

theorem commandFrame_length (s : State) : (commandFrame s).length = 8 + s.hlen.toNat + s.blen.toNat := by
  simp [commandFrame, generalFrame, commandData_length]
  omega

section
variable {s : State} (h : s.lenr.toNat = frameLen s.hlen s.blen)
include h

/-- R100 steps 6 to 11. -/
theorem commandFrame_head (hi : s.idx.toNat < 6) : (commandFrame s)[s.idx.toNat]? = some (headByte s) := by
  rw [commandFrame_eq h, List.getElem?_append_left (by simpa using hi), headByte]
  generalize s.idx.toNat = i at hi
  interval_cases i <;> rfl

theorem commandFrame_data {j : Nat} {b : Byte} (hj : (commandData s)[j]? = some b) :
    (commandFrame s)[6 + j]? = some b := by
  have hlt : j < (commandData s).length := (List.getElem?_eq_some_iff.1 hj).1
  rw [commandFrame_eq h, List.getElem?_append_right (by simp), List.getElem?_append_left (by simpa using hlt)]
  simpa using hj

/-- R100 steps 14 and 15. -/
theorem commandFrame_tail :
    (commandFrame s)[6 + s.hlen.toNat + s.blen.toNat]? = some (dcsGen (sumBytes 0xD4 (commandData s))) ∧
      (commandFrame s)[7 + s.hlen.toNat + s.blen.toNat]? = some s.cfg.postamble := by
  have hl := commandData_length s
  have h6 : 6 + s.hlen.toNat + s.blen.toNat = 6 + ((commandData s).length + 0) := by omega
  have h7 : 7 + s.hlen.toNat + s.blen.toNat = 6 + ((commandData s).length + 1) := by omega
  rw [commandFrame_eq h, h6, h7]
  constructor <;> rw [List.getElem?_append_right (by simp), List.getElem?_append_right (by simp)] <;> simp

end

theorem sumBytes_take_succ {seed b : Byte} {bs : List Byte} {j : Nat} (h : bs[j]? = some b) :
    sumBytes seed (bs.take (j + 1)) = sumAdd (sumBytes seed (bs.take j)) b := by
  rw [List.take_add_one, h, sumBytes_append]
  rfl

theorem SameOperands.commandData {s t : State} (o : SameOperands s t) : commandData t = commandData s := by
  unfold Machine.commandData
  rw [o.hdr, o.hlen, o.body, o.blen]

theorem SameOperands.commandFrame {s t : State} (o : SameOperands s t) : commandFrame t = commandFrame s := by
  unfold Machine.commandFrame
  rw [o.commandData, o.cfg]

/-- R62: the frame for operands that W_CHECK admits. -/
theorem commandFrame_isCommandFrame {s : State} (hne : s.hlen ≠ 0) (hl : tooLong s.cfg s.hlen s.blen = false) :
    IsCommandFrame s.cfg (commandFrame s) := by
  have hpos : s.hlen.toNat ≠ 0 := fun h0 => hne (BitVec.eq_of_toNat_eq h0)
  have hmax : frameLen s.hlen s.blen ≤ s.cfg.maxlen.toNat := by simpa [tooLong] using hl
  refine ⟨commandData s, ?_, ?_, rfl⟩ <;> rw [commandData_length]
  · omega
  · simpa [frameLen] using hmax

/-! ## The phases of the builder -/

/-- The phases in which a part of the command frame is staged (R100 steps 6 to 16). -/
def Phase.building : List Phase := [.wHead, .wHdr, .wBody, .wDcs, .wPost, .wCommit]

theorem emittedCount_eq_none {s : State} : emittedCount s = none ↔ s.ph ∉ Phase.building := by
  unfold emittedCount
  cases s.ph <;> simp [Phase.building]

/-- R34: the builder is entered through W_CHECK and W_OPEN only. -/
theorem Phase.building_of_edge (p : Phase) : ∀ q ∈ p.successors,
    q ∈ Phase.wOpen :: Phase.building → p ∈ Phase.wCheck :: Phase.wOpen :: Phase.building := by
  cases p <;> decide

theorem Phase.building_not_other {p : Phase} (h : p ∈ Phase.wOpen :: Phase.building) :
    p.inOtherTransaction = false := by
  revert h
  cases p <;> decide

/-- The invariant outside the builder. -/
theorem State.BuilderInv.outside {s : State} (hp : s.ph ∉ Phase.wOpen :: Phase.building)
    (hw : s.ph.inOtherTransaction = true → s.txn ≠ .writing) (hc : ∀ f ∈ s.committed, IsCommandFrame s.cfg f) :
    s.BuilderInv := by
  obtain ⟨ho, hb⟩ := not_or.1 (mt List.mem_cons.2 hp)
  have hn := emittedCount_eq_none.2 hb
  refine ⟨by simp [ho, hn], ?_, by simp [hn], by simp [hn], by simp [hn], hw, hc⟩
  unfold indexInRange
  cases h : s.ph <;> simp [h, Phase.building] at hb ⊢

/-! ## A visit that emits -/

/-- What a visit leaves when the bus takes its byte. -/
structure Emitted (s t : State) (b : Byte) : Prop where
  operands : SameOperands s t
  lenr : t.lenr = s.lenr
  staged : t.staged = s.staged ++ [b]
  txn : t.txn = .writing
  committed : t.committed = s.committed

/-- Behind the byte the builder moves on in its own registers. -/
theorem Emitted.moveOn {s u : State} {b : Byte} (e : Emitted s u b) (sum idx : Byte) (p : Phase) :
    Emitted s { u with sum := sum, idx := idx, ph := p } b := by
  obtain ⟨⟨⟩, hl, hst, htx, hc⟩ := e
  exact ⟨⟨by assumption, by assumption, by assumption, by assumption, by assumption, by assumption, by assumption,
    by assumption, by assumption, by assumption⟩, hl, hst, htx, hc⟩

/-- The invariant after the next byte of the frame. -/
theorem Emitted.builderInv {s t : State} {b : Byte} {n : Nat} (e : Emitted s t b) (hs : s.BuilderInv)
    (hn : emittedCount s = some n) (hb : (Machine.commandFrame s)[n]? = some b) (hn' : emittedCount t = some (n + 1))
    (hi : indexInRange t)
    (hsum : 6 ≤ n + 1 → n + 1 ≤ 6 + s.hlen.toNat + s.blen.toNat →
      t.sum = sumBytes 0xD4 ((Machine.commandData s).take (n + 1 - 6))) : t.BuilderInv := by
  have hph : t.ph ∈ Phase.building := by
    by_contra hp
    simp [emittedCount_eq_none.2 hp] at hn'
  have o := e.operands
  refine
    { length_ok := fun _ => ?_
      index_ok := hi
      staged_eq := fun m hm => ?_
      sum_eq := fun m hm h6 hle => ?_
      txn_ok := fun m hm => ?_
      no_writes := fun ho => by simp [Phase.building_not_other (List.mem_cons_of_mem _ hph)] at ho
      committed_ok := by rw [e.committed, o.cfg]; exact hs.committed_ok }
  · rw [o.hlen, o.blen, o.cfg, e.lenr]
    exact hs.length_ok (.inr (by simp [hn]))
  all_goals
    obtain rfl : n + 1 = m := Option.some.inj (hn'.symm.trans hm)
  · rw [o.commandFrame, e.staged, hs.staged_eq n hn, List.take_add_one, hb]
    rfl
  · rw [o.commandData]
    exact hsum h6 (by rwa [o.hlen, o.blen] at hle)
  · simpa using e.txn

/-- R101: a rejected byte ends the operation outside the builder, and nothing is committed. -/
theorem abort_builderInv {s : State} (k : Cause) (hc : ∀ f ∈ s.committed, IsCommandFrame s.cfg f) :
    (abort k s).BuilderInv :=
  .outside (by simp [Phase.building]) (by simp [Phase.inOtherTransaction]) (by simpa using hc)

section
variable {s t : State} (hs : s.BuilderInv)
include hs

theorem emitByte_builderInv {b : Byte} {k : State → State} (h : emitByte b k s = some t)
    (hk : ∀ u, u.ph = s.ph → u.idx = s.idx → u.sum = s.sum → Emitted s u b → (k u).BuilderInv) :
    t.BuilderInv := by
  obtain ⟨as, -, rfl⟩ | ⟨as, -, rfl⟩ := emitByte_cases h
  · exact hk _ rfl rfl rfl ⟨⟨rfl, rfl, rfl, rfl, rfl, rfl, rfl, rfl, rfl, rfl⟩, rfl, rfl, rfl, rfl⟩
  · exact abort_builderInv _ (by simpa using hs.committed_ok)

theorem lenr_of_emitting {n : Nat} (hn : emittedCount s = some n) : s.lenr.toNat = frameLen s.hlen s.blen :=
  (hs.length_ok (.inr (by simp [hn]))).2.2

theorem hlen_pos_of_emitting {n : Nat} (hn : emittedCount s = some n) : 0 < s.hlen.toNat :=
  Nat.pos_of_ne_zero fun h0 => (hs.length_ok (.inr (by simp [hn]))).1 (BitVec.eq_of_toNat_eq h0)

/-- R100 steps 6 to 11. -/
theorem wHead_builderInv (hp : s.ph = .wHead) (h : wHead s = some t) : t.BuilderInv := by
  have hn : emittedCount s = some s.idx.toNat := by simp [emittedCount, hp]
  have hi : s.idx.toNat < 6 := by simpa [indexInRange, hp] using hs.index_ok
  have hb := commandFrame_head (lenr_of_emitting hs hn) hi
  have hpos := hlen_pos_of_emitting hs hn
  refine emitByte_builderInv hs h fun u hph hidx _ e => ?_
  simp only [hidx]
  split
  · next hlt =>
    have hsucc : (s.idx + 1).toNat = s.idx.toNat + 1 := by bv_omega
    refine (e.moveOn u.sum (s.idx + 1) u.ph).builderInv hs hn hb ?_ ?_ (by omega)
    · simp only [emittedCount, hph, hp, hsucc]
    · simp only [indexInRange, hph, hp, hsucc]
      omega
  · next hlt =>
    have h5 : s.idx.toNat = 5 := by omega
    refine (e.moveOn 0xD4 0 .wHdr).builderInv hs hn hb ?_ ?_ fun _ _ => ?_
    · simp [emittedCount, h5]
    · simpa [indexInRange, e.operands.hlen] using hpos
    · simp [h5, sumBytes]

/-- R100 step 12. -/
theorem wHdr_builderInv (hp : s.ph = .wHdr) (h : wHdr s = some t) : t.BuilderInv := by
  have hn : emittedCount s = some (6 + s.idx.toNat) := by simp [emittedCount, hp]
  have hi : s.idx.toNat < s.hlen.toNat := by simpa [indexInRange, hp] using hs.index_ok
  have hd := commandData_hdr hi
  have hb := commandFrame_data (lenr_of_emitting hs hn) hd
  have hsum : s.sum = sumBytes 0xD4 ((commandData s).take s.idx.toNat) := by
    simpa using hs.sum_eq _ hn (by omega) (by omega)
  simp only [wHdr] at h
  refine emitByte_builderInv hs h fun u hph hidx hus e => ?_
  have hsum' : sumAdd u.sum (readHdr s s.idx.toNat) =
      sumBytes 0xD4 ((commandData s).take (6 + s.idx.toNat + 1 - 6)) := by
    rw [show 6 + s.idx.toNat + 1 - 6 = s.idx.toNat + 1 by omega, sumBytes_take_succ hd, hus, hsum]
  split
  · next hlt =>
    rw [hidx, e.operands.hlen] at hlt
    have hsucc : (s.idx + 1).toNat = s.idx.toNat + 1 := by bv_omega
    refine (e.moveOn (sumAdd u.sum _) (u.idx + 1) u.ph).builderInv hs hn hb ?_ ?_ fun _ _ => hsum'
    · simp only [emittedCount, hph, hp, hidx, hsucc, Nat.add_assoc]
    · simpa only [indexInRange, hph, hp, hidx, hsucc, e.operands.hlen] using hlt
  · next hlt =>
    rw [hidx, e.operands.hlen] at hlt
    have hlast : s.idx.toNat + 1 = s.hlen.toNat := by omega
    by_cases hz : u.blen = 0
    · rw [if_pos hz]
      refine (e.moveOn (sumAdd u.sum _) 0 .wDcs).builderInv hs hn hb ?_ trivial fun _ _ => hsum'
      simp [emittedCount, hz, e.operands.hlen, ← hlast, Nat.add_assoc]
    · rw [if_neg hz]
      refine (e.moveOn (sumAdd u.sum _) 0 .wBody).builderInv hs hn hb ?_ ?_ fun _ _ => hsum'
      · simp [emittedCount, e.operands.hlen, ← hlast, Nat.add_assoc]
      · exact Nat.pos_of_ne_zero fun h0 => hz (BitVec.eq_of_toNat_eq h0)

/-- R100 step 13. -/
theorem wBody_builderInv (hp : s.ph = .wBody) (h : wBody s = some t) : t.BuilderInv := by
  have hn : emittedCount s = some (6 + s.hlen.toNat + s.idx.toNat) := by simp [emittedCount, hp]
  have hi : s.idx.toNat < s.blen.toNat := by simpa [indexInRange, hp] using hs.index_ok
  have hd := commandData_body hi
  have hb := Nat.add_assoc _ _ _ ▸ commandFrame_data (lenr_of_emitting hs hn) hd
  have hsum : s.sum = sumBytes 0xD4 ((commandData s).take (s.hlen.toNat + s.idx.toNat)) := by
    rw [hs.sum_eq _ hn (by omega) (by omega),
      show 6 + s.hlen.toNat + s.idx.toNat - 6 = s.hlen.toNat + s.idx.toNat by omega]
  simp only [wBody] at h
  refine emitByte_builderInv hs h fun u hph hidx hus e => ?_
  have hsum' : sumAdd u.sum (readBody s s.idx.toNat) =
      sumBytes 0xD4 ((commandData s).take (6 + s.hlen.toNat + s.idx.toNat + 1 - 6)) := by
    rw [show 6 + s.hlen.toNat + s.idx.toNat + 1 - 6 = s.hlen.toNat + s.idx.toNat + 1 by omega, sumBytes_take_succ hd,
      hus, hsum]
  split
  · next hlt =>
    rw [hidx, e.operands.blen] at hlt
    have hsucc : (s.idx + 1).toNat = s.idx.toNat + 1 := by bv_omega
    refine (e.moveOn (sumAdd u.sum _) (u.idx + 1) u.ph).builderInv hs hn hb ?_ ?_ fun _ _ => hsum'
    · simp only [emittedCount, hph, hp, hidx, hsucc, e.operands.hlen, Nat.add_assoc]
    · simpa only [indexInRange, hph, hp, hidx, hsucc, e.operands.blen] using hlt
  · next hlt =>
    rw [hidx, e.operands.blen] at hlt
    have hlast : s.idx.toNat + 1 = s.blen.toNat := by omega
    refine (e.moveOn (sumAdd u.sum _) u.idx .wDcs).builderInv hs hn hb ?_ trivial fun _ _ => hsum'
    simp [emittedCount, e.operands.hlen, e.operands.blen, ← hlast, Nat.add_assoc]

/-- R100 step 14. -/
theorem wDcs_builderInv (hp : s.ph = .wDcs) (h : wDcs s = some t) : t.BuilderInv := by
  have hn : emittedCount s = some (6 + s.hlen.toNat + s.blen.toNat) := by simp [emittedCount, hp]
  have hsum : s.sum = sumBytes 0xD4 (commandData s) := by
    rw [hs.sum_eq _ hn (by omega) (by omega), List.take_of_length_le (by rw [commandData_length]; omega)]
  have hb := hsum ▸ (commandFrame_tail (lenr_of_emitting hs hn)).1
  refine emitByte_builderInv hs h fun u _ _ _ e => ?_
  refine (e.moveOn u.sum u.idx .wPost).builderInv hs hn hb ?_ trivial (by omega)
  simp [emittedCount, e.operands.hlen, e.operands.blen]
  omega

/-- R100 step 15. -/
theorem wPost_builderInv (hp : s.ph = .wPost) (h : wPost s = some t) : t.BuilderInv := by
  have hn : emittedCount s = some (7 + s.hlen.toNat + s.blen.toNat) := by simp [emittedCount, hp]
  have hb := (commandFrame_tail (lenr_of_emitting hs hn)).2
  refine emitByte_builderInv hs h fun u _ _ _ e => ?_
  refine (e.moveOn u.sum u.idx .wCommit).builderInv hs hn hb ?_ trivial (by omega)
  simp [emittedCount, e.operands.hlen, e.operands.blen]
  omega

/-! ## The other visits -/

/-- R100 steps 1 to 4: only admitted operands reach W_OPEN. -/
theorem wCheck_builderInv : (wCheck s).BuilderInv := by
  have hc := hs.committed_ok
  unfold wCheck
  split
  · exact abort_builderInv _ hc
  · next hne =>
    dsimp only
    split
    · exact abort_builderInv _ hc
    · next hl =>
      have hl : tooLong s.cfg s.hlen s.blen = false := by simpa using hl
      have hle : frameLen s.hlen s.blen ≤ s.cfg.maxlen.toNat := by simpa [tooLong] using hl
      have hmax := s.cfg.maxlen.isLt
      refine ⟨fun _ => ⟨hne, hl, ?_⟩, trivial, nofun, nofun, nofun, nofun, hc⟩
      simp only [BitVec.toNat_ofNat]
      omega

/-- R100 step 5: nothing is staged when the transaction is opened (R47). -/
theorem wOpen_builderInv (hp : s.ph = .wOpen) : (wOpen s).BuilderInv := by
  refine ⟨fun _ => hs.length_ok (.inl hp), by simp [indexInRange, wOpen], ?_, ?_, ?_, nofun, hs.committed_ok⟩
  all_goals
    intro m hm
    obtain rfl : 0 = m := Option.some.inj hm
  · simp [wOpen]
  · simp
  · rfl

/-- R100 step 16: what is committed is the whole frame. -/
theorem wCommit_builderInv (hp : s.ph = .wCommit) : (wCommit s).BuilderInv := by
  have hn : emittedCount s = some (8 + s.hlen.toNat + s.blen.toNat) := by simp [emittedCount, hp]
  obtain ⟨hne, hl, -⟩ := hs.length_ok (.inr (by simp [hn]))
  have htxn : s.txn = .writing := by simpa using hs.txn_ok _ hn
  have hst : s.staged = commandFrame s := by
    rw [hs.staged_eq _ hn, List.take_of_length_le (commandFrame_length s).le]
  refine .outside (by simp [wCommit, Phase.building]) nofun fun f hf => ?_
  simp only [wCommit, busEnd_committed, htxn, if_true, List.mem_append, List.mem_singleton] at hf
  obtain hf | rfl := hf
  · exact hs.committed_ok f hf
  · exact hst ▸ commandFrame_isCommandFrame hne hl

/-- R47: outside the builder no transaction carries writes, and nothing is committed. -/
theorem tick_outside (h : tick s = some t) (hp : s.ph ∉ Phase.wCheck :: Phase.wOpen :: Phase.building) :
    t.committed = s.committed ∧ (t.ph.inOtherTransaction = true → t.txn ≠ .writing) := by
  have hw := hs.no_writes
  cases hph : s.ph <;> rw [hph] at hp hw <;>
    simp only [tick, hph, Option.some.injEq, reduceCtorEq, rPre, rSc1, rSc2, rTfi, expectByte] at h
  case wCheck | wOpen | wHead | wHdr | wBody | wDcs | wPost | wCommit => simp [Phase.building] at hp
  case aRead | rStatus | rPre | rSc1 | rSc2 | rLen | rLcs | rTfi | rEcho | rDcs | rPost =>
    obtain ⟨b, bs, -, rfl⟩ := askRead_cases h
    dsimp only
    repeat' split
    all_goals simp
  case aWait | rWait | gWait =>
    obtain ⟨x, xs, -, -, rfl⟩ | ⟨r, rs, -, -, rfl⟩ | ⟨x, xs, -, -, rfl⟩ := waitVisit_cases h
    all_goals repeat' split
    all_goals simp [hph, Phase.inOtherTransaction]
  case bLow | kHold =>
    obtain ⟨x, xs, -, -, rfl⟩ | ⟨x, xs, -, -, rfl⟩ := delayVisit_cases h
    all_goals repeat' split
    all_goals exact ⟨rfl, by simp_all [Phase.inOtherTransaction]⟩
  case rData =>
    obtain ⟨b, bs, rfl⟩ | ⟨-, rfl⟩ := rData_cases h
    · simp
    · split <;> exact ⟨rfl, fun _ => hw rfl⟩
  case bSettle =>
    unfold bSettle at h
    split at h
    case h_1 => cases h; simp [hph, Phase.inOtherTransaction]
    all_goals
      obtain ⟨x, xs, -, -, rfl⟩ | ⟨x, xs, -, -, rfl⟩ := delayVisit_cases h
      all_goals repeat' split
      all_goals simp [hph, Phase.inOtherTransaction]
  case aEval =>
    subst h
    unfold aEval
    split <;> simp [Phase.inOtherTransaction]
  case rSize =>
    subst h
    simp only [rSize]
    repeat' split
    all_goals exact ⟨rfl, fun _ => hw rfl⟩
  case rCheck | bInit =>
    subst h
    simp only [rCheck, bInit]
    split <;> simp [hph, Phase.inOtherTransaction]
  case aOpen | rOpen | kOpen =>
    subst h
    simp [aOpen, rOpen, kOpen]
  case aClose | rClose | kClose | xClose =>
    subst h
    have hne := hw rfl
    simp [aClose, rClose, kClose, xClose, hne]

end

theorem tick_builderInv {s t : State} (h : tick s = some t) (hs : s.BuilderInv) : t.BuilderInv := by
  by_cases hp : s.ph ∈ Phase.wCheck :: Phase.wOpen :: Phase.building
  · simp only [Phase.building, List.mem_cons, List.not_mem_nil, or_false] at hp
    obtain hp | hp | hp | hp | hp | hp | hp | hp := hp <;> simp only [tick, hp, Option.some.injEq] at h
    · exact h ▸ wCheck_builderInv hs
    · exact h ▸ wOpen_builderInv hs hp
    · exact wHead_builderInv hs hp h
    · exact wHdr_builderInv hs hp h
    · exact wBody_builderInv hs hp h
    · exact wDcs_builderInv hs hp h
    · exact wPost_builderInv hs hp h
    · exact h ▸ wCommit_builderInv hs hp
  · obtain ⟨hc, hw⟩ := tick_outside hs h hp
    refine .outside (fun ht => hp (s.ph.building_of_edge _ (tick_visit h).edge ht)) hw ?_
    rw [hc, (tick_sameOperands h).cfg]
    exact hs.committed_ok

/-! ## The rest of a step -/

theorem idle_builderInv {s : State} (hi : s.ph = .idle) (hc : ∀ f ∈ s.committed, IsCommandFrame s.cfg f) :
    s.BuilderInv :=
  .outside (by simp [hi, Phase.building]) (by simp [hi, Phase.inOtherTransaction]) hc

/-- R34: an operation starts outside every transaction. -/
theorem firstPhase_outside {c : OpCode} {ph : Phase} (h : firstPhase c = some ph) :
    ph ∉ Phase.wOpen :: Phase.building ∧ ph.inOtherTransaction = false := by
  unfold firstPhase at h
  split at h <;> cases h <;> decide

theorem Lands.builderInv {s u : State} (h : Lands s u) (hi : s.Inv) (hs : s.BuilderInv) : u.BuilderInv := by
  obtain ⟨hlen, hidx, hstaged, hsum, htxn, hwrites, hcommitted⟩ := hs
  cases h with
  | start c ph hb hp =>
    obtain ⟨ho, hw⟩ := firstPhase_outside hp
    exact .outside ho (by simp [hw]) hcommitted
  | reject c hb hp => exact idle_builderInv (hi.busy_iff.1 hb) hcommitted
  | answers ns rs as bs => exact ⟨hlen, hidx, hstaged, hsum, htxn, hwrites, hcommitted⟩

theorem HostAccess.builderInv {s t : State} (h : HostAccess s t) (hi : s.Inv) (hs : s.BuilderInv) : t.BuilderInv := by
  obtain ⟨hlen, hidx, hstaged, hsum, htxn, hwrites, hcommitted⟩ := id hs
  cases h with
  | latch r v =>
    unfold writeLatch
    split
    · exact hs
    · next hb =>
      have hidle : s.ph = .idle := hi.busy_iff.1 (by simpa using hb)
      cases r <;> exact idle_builderInv hidle hcommitted
  | read v n => exact ⟨hlen, hidx, hstaged, hsum, htxn, hwrites, hcommitted⟩
  | place b bs hb hl =>
    have hidle : s.ph = .idle := hi.busy_iff.1 hb
    cases b <;> exact idle_builderInv hidle hcommitted

theorem builderInv_inputs {s : State} (is : List Input) (hs : s.BuilderInv) :
    State.BuilderInv { s with inputs := is } := by
  obtain ⟨hlen, hidx, hstaged, hsum, htxn, hwrites, hcommitted⟩ := hs
  exact ⟨hlen, hidx, hstaged, hsum, htxn, hwrites, hcommitted⟩

/-- Settles O56: landing, every visit, every access of the host and the reset keep the invariant. -/
theorem onlyCommandFramesGoOut : Obligations.OnlyCommandFramesGoOut := fun _ _ hi hs h =>
  (step_keeps (P := fun s => s.Inv ∧ s.BuilderInv)
    (fun _ is ⟨hi, hs⟩ => ⟨inv_inputs is hi, builderInv_inputs is hs⟩)
    (fun _ _ hl ⟨hi, hs⟩ => ⟨hl.inv hi, hl.builderInv hi hs⟩)
    (fun _ _ ht ⟨hi, hs⟩ => ⟨tick_inv ht hi, tick_builderInv ht hs⟩)
    (fun _ _ hh ⟨hi, hs⟩ => ⟨hh.inv hi, hh.builderInv hi hs⟩)
    (fun _ ⟨hi, hs⟩ => ⟨hardwareReset_inv hi, idle_builderInv rfl hs.committed_ok⟩) h ⟨hi, hs⟩).2

end Sys2Proof.Machine
end

section
/-! PROOFS. The engine at rest: what it waits for is a matter of its phase and of the answers that have come, and every
step ends with a run, or leaves these as they are. -/

namespace Sys2Proof.Machine

/-! ## What keeps an engine at rest -/

/-- All that the engine looks at to see whether it can go on. -/
def State.asking (s : State) : Phase × SubStep × List Bool × List Byte × List Bool × List Nat :=
  (s.ph, s.sub, s.accepts, s.reads, s.readies, s.nows)

theorem askRead_eq_none {k : Byte → State → State} {s : State} : askRead k s = none ↔ s.reads = [] := by
  unfold askRead
  split <;> simp_all

theorem emitByte_eq_none {b : Byte} {k : State → State} {s : State} : emitByte b k s = none ↔ s.accepts = [] := by
  unfold emitByte askWrite
  split <;> simp_all

theorem tick_none_of_asking (s : State) {t : State} (h : t.asking = s.asking) (hs : tick s = none) : tick t = none := by
  simp only [State.asking, Prod.mk.injEq] at h
  obtain ⟨hp, hsub, ha, hr, hy, hn⟩ := h
  unfold tick at hs ⊢
  rw [hp]
  cases hph : s.ph <;> rw [hph] at hs <;> dsimp only at hs ⊢
  case wHead | wHdr | wBody | wDcs | wPost =>
    simpa only [wHead, wHdr, wBody, wDcs, wPost, emitByte_eq_none, ha] using hs
  case aRead | rStatus | rPre | rSc1 | rSc2 | rLen | rLcs | rTfi | rEcho | rDcs | rPost =>
    simpa only [aRead, rStatus, rPre, rSc1, rSc2, rLen, rLcs, rTfi, rEcho, rDcs, rPost, expectByte, askRead_eq_none, hr]
      using hs
  case aWait | rWait | gWait => simpa only [aWait, rWait, gWait, waitVisit_eq_none, hsub, hy, hn] using hs
  case bLow | kHold => simpa only [bLow, kHold, delayVisit_eq_none, hn] using hs
  case rData =>
    unfold rData at hs ⊢
    rw [hsub]
    split at hs <;> simp_all [askRead_eq_none]
  case bSettle =>
    unfold bSettle at hs ⊢
    rw [hsub]
    split at hs <;> simp_all [delayVisit_eq_none]
  all_goals simp at hs

/-! ## Steps -/

/-- A step runs the instruction that it fetches, lets the engine go on, or takes an input that is no instruction. -/
theorem step_next_cases {s t : State} (h : step s = .next t) :
    (∃ i is, exec i { s with inputs := is } = .next t) ∨ t = resume s ∨
      ∃ a is, hostInput a { s with inputs := is } = .next t := by
  unfold step at h
  split at h
  · next i s' hf =>
    obtain ⟨is, rfl⟩ := fetch_state hf
    exact .inl ⟨i, is, h⟩
  · split at h
    · cases h; exact .inr (.inl rfl)
    · next a rest _ => exact .inr (.inr ⟨a, rest, h⟩)

/-- An instruction is ignored or rejected, or the engine runs. -/
theorem exec_rests {i : Instr} {s t : State} (hs : tick s = none) (h : exec i s = .next t) : tick t = none := by
  obtain ⟨c, rfl⟩ | ⟨as, bs, he⟩ := exec_wire_cases i s
  · cases (exec_decodeOpCode c s).symm.trans h
    split
    · exact hs
    · split
      · exact resume_rests _
      · exact tick_none_of_asking s rfl hs
  · cases he.symm.trans h
    exact resume_rests _

theorem HostAccess.asking {s t : State} (h : HostAccess s t) : t.asking = s.asking := by
  cases h with
  | latch r v =>
    unfold writeLatch
    split
    · rfl
    · cases r <;> rfl
  | read v n => rfl
  | place b bs => cases b <;> rfl

/-- Settles O57: a run comes to rest, and so does a reset; nothing else touches what the engine waits for. -/
theorem stepComesToRest : Obligations.StepComesToRest := by
  intro s t (hs : tick s = none) h
  have hin (is : List Input) : tick { s with inputs := is } = none := tick_none_of_asking s rfl hs
  obtain ⟨i, is, he⟩ | rfl | ⟨a, is, ha⟩ := step_next_cases h
  · exact exec_rests (hin is) he
  · exact resume_rests s
  · obtain ⟨u, -, rfl⟩ | hh | rfl | ⟨n, rfl⟩ := hostInput_cases ha
    · exact resume_rests u
    · exact tick_none_of_asking _ hh.asking (hin is)
    · exact hardwareReset_rests _
    · exact hardwareReset_rests _

/-- Settles O37: an idle engine is at rest, and is not about to emit a frame. -/
theorem idleEngineIgnoresTheBus : Obligations.IdleEngineIgnoresTheBus := by
  intro i s hi hw
  have hd (bs : List Byte) : deliver bs s = { s with reads := s.reads ++ bs } := resume_of_rest (tick_idle hi)
  have ha (bs : List Byte) : aboutToEmit bs s = false := by simp [aboutToEmit, hi]
  cases i with
  | cmdFrame len lcs rest => simp [exec, execCmdFrame, ha, hd]
  | rspFrame len lcs rest => simp [exec, execRspFrame, hd]
  | ackFrame => simp [exec, execAckFrame, hd]
  | statusByte ignored => simp [exec, execStatusByte, hd]
  | _ => exact absurd rfl (hw _)

end Sys2Proof.Machine
end

section
/-! PROOFS. The byte buffers: the command frame is a matter of header and body in a row, and what the host places in a
buffer and reads from it. -/

namespace Sys2Proof.Machine

/-! ## Header and body (R41) -/

theorem Memory.readBytes_add (m : Memory) (i n k : Nat) :
    Memory.readBytes m i (n + k) = Memory.readBytes m i n ++ Memory.readBytes m (i + n) k := by
  induction n generalizing i with
  | zero => simp [Memory.readBytes]
  | succ n ih => simp [Nat.succ_add, Memory.readBytes, ih, Nat.add_assoc]

theorem Memory.readBytes_writeBytes_same (m : Memory) (k : Nat) (bs : List Byte) :
    Memory.readBytes (Memory.writeBytes m k bs) k bs.length = bs :=
  (Memory.readBytes_eq_iff _ _ _).2 fun j hj => by
    rw [Memory.read_writeBytes, if_pos (by omega), Nat.add_sub_cancel_left]

theorem Memory.readBytes_writeBytes_below (m : Memory) {i n k : Nat} (bs : List Byte) (h : i + n ≤ k) :
    Memory.readBytes (Memory.writeBytes m k bs) i n = Memory.readBytes m i n := by
  induction n generalizing i with
  | zero => rfl
  | succ n ih => rw [Memory.readBytes, Memory.readBytes, ih (by omega), Memory.read_writeBytes, if_neg (by omega)]

/-- Settles O15: the body, written behind the header, reads back as the body. -/
theorem headerBodySplitDoesNotMatter : Obligations.HeaderBodySplitDoesNotMatter := by
  intro s h
  have hlen : (s.hlen + s.blen).toNat = s.hlen.toNat + (Memory.readBytes s.body 0 s.blen.toNat).length := by
    rw [Memory.readBytes_length]
    bv_omega
  have hdata : commandData { s with
      hdr := Memory.writeBytes s.hdr s.hlen.toNat (Memory.readBytes s.body 0 s.blen.toNat)
      hlen := s.hlen + s.blen
      blen := 0 } = commandData s := by
    simp only [commandData, hlen, Memory.readBytes_add, Nat.zero_add, Memory.readBytes_writeBytes_same]
    rw [Memory.readBytes_writeBytes_below _ _ (by omega)]
    exact List.append_nil _
  simp only [commandFrame, hdata]

/-! ## The host's accesses (R40 to R42, R59) -/

theorem step_put {s : State} {b : Buffer} {bs : List Byte} {rest : List Input} (h : s.inputs = .put b bs :: rest) :
    step s = bufferAccess bs.length (putBuffer b bs) { s with inputs := rest } := by
  have hf : fetch s = none := by simp [fetch, h]
  simp only [step, hf, h, hostInput]

theorem step_peek {s : State} {i : Nat} {rest : List Input} (h : s.inputs = .peek i :: rest) :
    step s = bufferAccess (i + 1) (fun s => { s with rdata := (Memory.read s.rbuf i).toNat })
      { s with inputs := rest } := by
  have hf : fetch s = none := by simp [fetch, h]
  simp only [step, hf, h, hostInput]

section
variable {top : Nat} {k : State → State} {s : State}

theorem bufferAccess_busy (hb : s.busy = true) : bufferAccess top k s = .refused .bufferTouchedWhileBusy := by
  simp [bufferAccess, hb]

theorem bufferAccess_beyond (hb : s.busy = false) (ht : 256 < top) : bufferAccess top k s = .fault .bufferIndex := by
  simp [bufferAccess, hb, ht]

theorem bufferAccess_within (hb : s.busy = false) (ht : top ≤ 256) : bufferAccess top k s = .next (k s) := by
  simp [bufferAccess, hb, ht]

end

/-- What every index of every buffer reads as after the host has placed bytes in one of them. -/
theorem read_putBuffer (b : Buffer) (bs : List Byte) (s : State) (i : Nat) :
    (putBuffer b bs s).hdr.read i = (if b = .hdr ∧ i < bs.length then bs.getD i 0 else s.hdr.read i) ∧
    (putBuffer b bs s).body.read i = (if b = .body ∧ i < bs.length then bs.getD i 0 else s.body.read i) ∧
    (putBuffer b bs s).rbuf.read i = (if b = .rbuf ∧ i < bs.length then bs.getD i 0 else s.rbuf.read i) := by
  cases b <;> simp [putBuffer, Memory.read_writeBytes]

/-- Settles O48: both accesses go through the check of `BUSY` and of the index, and then to the one buffer. -/
theorem buffersAreTheHostsWhileIdle : Obligations.BuffersAreTheHostsWhileIdle := by
  refine ⟨fun s b bs rest h => ⟨fun hb => ?_, fun hb ht => ?_, fun hb ht => ?_⟩,
    fun s i rest h => ⟨fun hb => ?_, fun hb ht => ?_, fun hb ht => ?_⟩⟩
  · exact (step_put h).trans (bufferAccess_busy hb)
  · exact (step_put h).trans (bufferAccess_beyond hb ht)
  · have hr := read_putBuffer b bs { s with inputs := rest }
    exact ⟨_, (step_put h).trans (bufferAccess_within hb ht), fun i => (hr i).1, fun i => (hr i).2.1,
      fun i => (hr i).2.2, by cases b <;> rfl⟩
  · exact (step_peek h).trans (bufferAccess_busy hb)
  · exact (step_peek h).trans (bufferAccess_beyond hb (by omega))
  · exact (step_peek h).trans (bufferAccess_within hb (by omega))

end Sys2Proof.Machine
end

section
/-! PROOFS. The events of an operation are those of its phases. -/

namespace Sys2Proof.Machine

/-- R44: what a visit of a phase adds to the trace, its operation may cause. -/
theorem tick_mayCause {c : OpCode} {s t : State} (h : tick s = some t) (hc : s.ph.operation = some c) :
    t.trace = s.trace ∨ ∃ e, t.trace = s.trace ++ [e] ∧ mayCause c e = true := by
  cases hp : s.ph <;> rw [hp] at hc <;> cases hc <;>
    simp only [tick, hp, Option.some.injEq, rPre, rSc1, rSc2, rTfi, expectByte, wHdr, wBody] at h
  case aRead | rStatus | rPre | rSc1 | rSc2 | rLen | rLcs | rTfi | rEcho | rDcs | rPost =>
    obtain ⟨b, bs, -, rfl⟩ := askRead_cases h
    dsimp only
    repeat' split
    all_goals exact .inr ⟨_, rfl, rfl⟩
  case wHead | wHdr | wBody | wDcs | wPost =>
    obtain ⟨as, -, rfl⟩ | ⟨as, -, rfl⟩ := emitByte_cases h
    all_goals repeat' split
    all_goals exact .inr ⟨_, rfl, rfl⟩
  case aWait | rWait | gWait =>
    obtain ⟨x, xs, -, -, rfl⟩ | ⟨r, rs, -, -, rfl⟩ | ⟨x, xs, -, -, rfl⟩ := waitVisit_cases h
    all_goals repeat' split
    all_goals exact .inr ⟨_, rfl, rfl⟩
  case bLow | kHold =>
    obtain ⟨x, xs, -, -, rfl⟩ | ⟨x, xs, -, -, rfl⟩ := delayVisit_cases h
    all_goals repeat' split
    all_goals exact .inr ⟨_, rfl, rfl⟩
  case rData =>
    obtain ⟨b, bs, rfl⟩ | ⟨-, rfl⟩ := rData_cases h
    · exact .inr ⟨_, rfl, rfl⟩
    · split <;> exact .inl rfl
  case bSettle =>
    unfold bSettle at h
    split at h
    case h_1 => cases h; exact .inr ⟨_, rfl, rfl⟩
    all_goals
      obtain ⟨x, xs, -, -, rfl⟩ | ⟨x, xs, -, -, rfl⟩ := delayVisit_cases h
      all_goals repeat' split
      all_goals exact .inr ⟨_, rfl, rfl⟩
  case aEval =>
    subst h
    rw [aEval_eq]
    split <;> exact .inl rfl
  case wCheck | rCheck | rSize =>
    subst h
    simp only [wCheck, rCheck, rSize]
    repeat' split
    all_goals exact .inl rfl
  case bInit =>
    subst h
    unfold bInit
    split <;> exact .inr ⟨_, rfl, rfl⟩
  case wOpen | wCommit | aOpen | aClose | rOpen | rClose | kOpen | kClose | xClose =>
    subst h
    exact .inr ⟨_, rfl, rfl⟩

/-- Operation `c`, started in `s`, has got as far as `u`, and has caused only events that it may cause. -/
structure CausedBy (c : OpCode) (s u : State) : Prop where
  within : u.ph = .idle ∨ u.ph.operation = some c
  events : ∃ ev : List Event, u.trace = s.trace ++ ev ∧ ∀ e ∈ ev, mayCause c e = true

theorem tick_causedBy {c : OpCode} {s u t : State} (h : tick u = some t) (hu : CausedBy c s u) : CausedBy c s t := by
  have hop : u.ph.operation = some c := hu.within.resolve_left (not_idle_of_tick h)
  obtain ⟨ev, hev, hall⟩ := hu.events
  refine ⟨(u.ph.operation_of_edge _ (tick_visit h).edge).imp_right (·.trans hop), ?_⟩
  obtain ht | ⟨e, ht, he⟩ := tick_mayCause h hop
  · exact ⟨ev, ht.trans hev, hall⟩
  · refine ⟨ev ++ [e], by rw [ht, hev, List.append_assoc], fun x hx => ?_⟩
    obtain hx | hx := List.mem_append.1 hx
    · exact hall x hx
    · exact List.mem_singleton.1 hx ▸ he

/-- Settles O51: an operation stays in its phases, and each visit adds at most an event of its operation. -/
theorem eventsOfTheOperations : Obligations.EventsOfTheOperations := by
  intro c s t hb h
  cases hp : firstPhase c with
  | some ph =>
    cases (exec_operation hb hp).symm.trans h
    have h0 : CausedBy c s (startOperation c ph s) :=
      ⟨.inr (firstPhase_operation hp), [], (List.append_nil _).symm, nofun⟩
    exact (resume_keeps (fun _ _ ht hu => tick_causedBy ht hu) h0).events
  | none =>
    cases (exec_reserved hb hp).symm.trans h
    exact ⟨[], (List.append_nil _).symm, nofun⟩

end Sys2Proof.Machine
end

section
/-! PROOFS. What a wire format leaves unchanged: it lets a waiting operation go on, which stores only payload bytes,
from `IDX` up and below `PLEN`. -/

namespace Sys2Proof.Machine

/-! ## Stores (R42, R120 step 15) -/

/-- The phases of READ_RESPONSE before the payload. -/
def Phase.beforeStore : List Phase :=
  [.rCheck, .rWait, .rOpen, .rStatus, .rPre, .rSc1, .rSc2, .rLen, .rLcs, .rTfi, .rEcho, .rSize]

/-- R34: the phases before the payload are entered from one another only. -/
theorem Phase.beforeStore_of_edge (p : Phase) : ∀ q ∈ p.successors, q ∈ Phase.beforeStore → p ∈ Phase.beforeStore := by
  cases p <;> decide

/-- R120 step 15: a visit stores at `IDX`, in R_DATA, or nowhere; `IDX` does not fall there. -/
theorem tick_stores {s t : State} (h : tick s = some t) (hs : s.Inv) :
    t.rbuf = s.rbuf ∨ s.ph = .rData ∧ t.plen = s.plen ∧ s.idx.toNat < s.plen.toNat ∧
      ∃ b, t.rbuf = Memory.write s.rbuf s.idx.toNat b := by
  have v := tick_visit h
  by_cases hp : s.ph = .rData
  · have hplen := v.plen (by simp [hp])
    simp only [tick, hp] at h
    obtain ⟨b, bs, rfl⟩ | ⟨-, rfl⟩ := rData_cases h
    · exact .inl rfl
    · refine .inr ⟨hp, hplen, (hs.store_lt hp).1, s.rbyte, ?_⟩
      split <;> rfl
  · exact .inl (v.rbuf hp)

/-- What a run from `s` on has stored. -/
structure Stored (s u : State) : Prop where
  inv : u.Inv
  before : u.ph ∈ Phase.beforeStore → u.rbuf = s.rbuf
  below : ∀ n, u.plen.toNat ≤ n → u.rbuf.read n = s.rbuf.read n

theorem tick_stored {s u t : State} (h : tick u = some t) (hu : Stored s u) : Stored s t := by
  have v := tick_visit h
  have hinv := tick_inv h hu.inv
  obtain hr | ⟨hp, hplen, hlt, b, hr⟩ := tick_stores h hu.inv
  · refine ⟨hinv, fun hb => hr.trans (hu.before (u.ph.beforeStore_of_edge _ v.edge hb)), fun n hn => ?_⟩
    rw [hr]
    by_cases hp : u.ph = .rSize
    · rw [hu.before (by simp [hp, Phase.beforeStore])]
    · exact hu.below n (v.plen hp ▸ hn)
  · refine ⟨hinv, fun hb => ?_, fun n hn => ?_⟩
    · have := u.ph.beforeStore_of_edge _ v.edge hb
      simp [hp, Phase.beforeStore] at this
    · rw [hplen] at hn
      rw [hr, Memory.read_write_other _ _ _ _ (by omega)]
      exact hu.below n hn

/-- R120 step 15: `IDX` does not fall in R_DATA. -/
theorem rData_idx_le {s t : State} (h : rData s = some t) : s.idx.toNat ≤ t.idx.toNat := by
  obtain ⟨b, bs, rfl⟩ | ⟨-, rfl⟩ := rData_cases h
  · exact le_rfl
  · split
    · next hlt =>
      have hmax := s.plen.isLt
      show s.idx.toNat ≤ (s.idx + 1).toNat
      bv_omega
    · exact le_rfl

/-- A run from `s`, which has come to the payload, stores at `IDX` of `s` and above. -/
structure StoredAbove (s u : State) : Prop where
  inv : u.Inv
  after : u.ph ∉ Phase.beforeStore
  index : u.ph = .rData → s.idx.toNat ≤ u.idx.toNat
  above : ∀ n, n < s.idx.toNat → u.rbuf.read n = s.rbuf.read n

theorem tick_storedAbove {s u t : State} (h : tick u = some t) (hu : StoredAbove s u) : StoredAbove s t := by
  have v := tick_visit h
  refine ⟨tick_inv h hu.inv, fun hb => hu.after (u.ph.beforeStore_of_edge _ v.edge hb), fun hd => ?_, fun n hn => ?_⟩
  · obtain hp | hp := u.ph.rData_of_edge (hd ▸ v.edge)
    · exact absurd (by simp [hp, Phase.beforeStore]) hu.after
    · simp only [tick, hp] at h
      exact (hu.index hp).trans (rData_idx_le h)
  · obtain hr | ⟨hp, -, -, b, hr⟩ := tick_stores h hu.inv
    · rw [hr, hu.above n hn]
    · have hi := hu.index hp
      rw [hr, Memory.read_write_other _ _ _ _ (by omega), hu.above n hn]

/-! ## Phases that do not read a response -/

/-- R34: no edge leads to the first phase of READ_RESPONSE. -/
theorem Phase.not_rCheck_of_edge (p : Phase) : Phase.rCheck ∉ p.successors := by
  cases p <;> decide

/-- Outside READ_RESPONSE, `RBUF` and `PLEN` are as they were. -/
structure OutsideResponse (s u : State) : Prop where
  outside : u.ph.readsResponse = false ∧ u.ph ≠ .rCheck
  rbuf : u.rbuf = s.rbuf
  plen : u.plen = s.plen

theorem tick_outsideResponse {s u t : State} (h : tick u = some t) (hu : OutsideResponse s u) :
    OutsideResponse s t := by
  have v := tick_visit h
  obtain ⟨hr, hc⟩ := hu.outside
  have hne {p : Phase} (hp : p.readsResponse = true) : u.ph ≠ p := fun he => by simp [he, hp] at hr
  refine ⟨⟨?_, fun ht => u.ph.not_rCheck_of_edge (ht ▸ v.edge)⟩, (v.rbuf (hne rfl)).trans hu.rbuf,
    (v.plen (hne rfl)).trans hu.plen⟩
  refine Bool.eq_false_of_not_eq_true fun ht => ?_
  exact (u.ph.readsResponse_of_edge _ v.edge ht).elim (by simp [hr]) hc

/-! ## The result -/

/-- R35: until the operation ends, `RESULT` and `CAUSE` are as they were. -/
theorem tick_oldResult {s u t : State} (h : tick u = some t)
    (hu : u.ph ≠ .idle → u.result = s.result ∧ u.cause = s.cause) :
    t.ph ≠ .idle → t.result = s.result ∧ t.cause = s.cause := fun hi => by
  obtain ⟨-, hr, hk⟩ := (tick_visit h).runs hi
  rw [hr, hk]
  exact hu (not_idle_of_tick h)

/-! ## Wire formats -/

theorem encode_decodeOpCode (c : OpCode) : encode (decodeOpCode c) = .opsel c := by
  obtain ⟨⟨n, hn⟩⟩ := c
  interval_cases n <;> rfl

/-- Settles O39: the run that the bytes set off keeps each part of the frame, visit by visit. -/
theorem wireFormatFrame : Obligations.WireFormatFrame := by
  intro i s t hw hs hrest h
  obtain ⟨c, rfl⟩ | ⟨as, bs, he⟩ := exec_wire_cases i s
  · exact absurd (encode_decodeOpCode c) (hw c)
  cases he.symm.trans h
  have hrun : tick s = none := hrest
  have hinv : (s.more [] [] as bs).Inv := (Lands.answers _ _ _ _).inv hs
  have ho : SameOperands s (resume (s.more [] [] as bs)) :=
    (resume_sameOperands _).after ⟨rfl, rfl, rfl, rfl, rfl, rfl, rfl, rfl, rfl, rfl⟩
  have hf := wire_sameFlags hrest as bs
  have hst : Stored s (resume (s.more [] [] as bs)) :=
    resume_keeps (fun _ _ ht hu => tick_stored ht hu) ⟨hinv, fun _ => rfl, fun _ _ => rfl⟩
  refine ⟨⟨ho.cfg, ho.hlen, ho.blen, ho.maxl, ho.tmo⟩, ⟨hf.pendcmd, hf.pendv⟩,
    fun n => ⟨by rw [ho.hdr], by rw [ho.body]⟩, fun hb => ?_, ho.opr, hf.rdyres, hf.rstn, ho.inputs, ho.rdata, hst.below,
    fun hr => ?_, fun hp => ?_⟩
  · refine resume_keeps (P := fun u => u.ph ≠ .idle → u.result = s.result ∧ u.cause = s.cause)
      (fun _ _ ht hu => tick_oldResult ht hu) (fun _ => ⟨rfl, rfl⟩) fun hi => ?_
    simp [hst.inv.busy_iff.2 hi] at hb
  · have hc : s.ph ≠ .rCheck := fun hc => by simp [tick, hc] at hrun
    have hout : OutsideResponse s (resume (s.more [] [] as bs)) :=
      resume_keeps (fun _ _ ht hu => tick_outsideResponse ht hu) ⟨⟨hr, hc⟩, rfl, rfl⟩
    exact ⟨hout.rbuf, hout.plen⟩
  · have hafter : s.ph ∉ Phase.beforeStore := by simp [hp, Phase.beforeStore]
    have habove : StoredAbove s (resume (s.more [] [] as bs)) :=
      resume_keeps (fun _ _ ht hu => tick_storedAbove ht hu) ⟨hinv, hafter, fun _ => le_rfl, fun _ _ => rfl⟩
    exact habove.above

end Sys2Proof.Machine
end

section
/-! PROOFS. A visit does not look at the host's queue, and a run that waits goes on from an answer that comes later as
it would have with the answer there from the start. -/

namespace Sys2Proof.Machine

/-! ## The host's queue is not looked at -/

/-- A state with another queue of inputs. -/
def State.queue (s : State) (is : List Input) : State := { s with inputs := is }

section
variable {is : List Input} {s : State}

theorem askNow_queue {k : Nat → State → State} (hk : ∀ x u, k x (u.queue is) = (k x u).queue is) :
    askNow k (s.queue is) = (askNow k s).map (·.queue is) := by
  unfold askNow
  rw [show (s.queue is).nows = s.nows from rfl]
  split
  · rfl
  · exact congrArg some (hk _ { s with nows := _, trace := _ })

theorem askReady_queue {k : Bool → State → State} (hk : ∀ r u, k r (u.queue is) = (k r u).queue is) :
    askReady k (s.queue is) = (askReady k s).map (·.queue is) := by
  unfold askReady
  rw [show (s.queue is).readies = s.readies from rfl]
  split
  · rfl
  · exact congrArg some (hk _ { s with readies := _, trace := _ })

theorem askRead_queue {k : Byte → State → State} (hk : ∀ b u, k b (u.queue is) = (k b u).queue is) :
    askRead k (s.queue is) = (askRead k s).map (·.queue is) := by
  unfold askRead
  rw [show (s.queue is).reads = s.reads from rfl]
  split
  · rfl
  · exact congrArg some (hk _ { s with reads := _, txn := _, trace := _ })

theorem emitByte_queue {b : Byte} {k : State → State} (hk : ∀ u, k (u.queue is) = (k u).queue is) :
    emitByte b k (s.queue is) = (emitByte b k s).map (·.queue is) := by
  unfold emitByte askWrite
  rw [show (s.queue is).accepts = s.accepts from rfl]
  split
  · rfl
  · next a as _ =>
    cases a with
    | true => exact congrArg some (hk (logEmitted b true { s with accepts := as, txn := _, staged := _, trace := _ }))
    | false => rfl

theorem waitVisit_queue {d : Nat} {yes no : State → State} (hy : ∀ u, yes (u.queue is) = (yes u).queue is)
    (hn : ∀ u, no (u.queue is) = (no u).queue is) :
    waitVisit d yes no (s.queue is) = (waitVisit d yes no s).map (·.queue is) := by
  unfold waitVisit
  rw [show (s.queue is).sub = s.sub from rfl]
  split
  · exact askNow_queue fun _ _ => rfl
  · exact askNow_queue fun _ _ => rfl
  · exact askReady_queue fun r u => by cases r <;> [rfl; exact hy u]
  · refine askNow_queue fun x u => ?_
    rw [show timedOut (u.queue is) x = timedOut u x from rfl]
    split <;> [exact hn u; rfl]

theorem delayVisit_queue {d : Nat} {done : State → State} (hd : ∀ u, done (u.queue is) = (done u).queue is) :
    delayVisit d done (s.queue is) = (delayVisit d done s).map (·.queue is) := by
  unfold delayVisit
  rw [show (s.queue is).sub = s.sub from rfl]
  split
  · exact askNow_queue fun _ _ => rfl
  · exact askNow_queue fun _ _ => rfl
  all_goals
    refine askNow_queue fun x u => ?_
    rw [show timedOut (u.queue is) x = timedOut u x from rfl]
    split <;> [exact hd u; rfl]

theorem tick_queue : tick (s.queue is) = (tick s).map (·.queue is) := by
  have hite (P : Prop) [Decidable P] (a b : State) :
      (if P then a else b).queue is = if P then a.queue is else b.queue is := apply_ite (·.queue is) P a b
  unfold tick
  rw [show (s.queue is).ph = s.ph from rfl]
  cases s.ph <;> dsimp only
  case wDcs | wPost => exact emitByte_queue fun _ => rfl
  case wHead | wHdr | wBody =>
    simp only [wHead, wHdr, wBody]
    refine emitByte_queue fun u => ?_
    rw [hite]
    rfl
  case rLen | rPost => exact askRead_queue fun _ _ => rfl
  case aRead | rStatus | rPre | rSc1 | rSc2 | rLcs | rTfi | rEcho | rDcs =>
    simp only [aRead, rStatus, rPre, rSc1, rSc2, rLcs, rTfi, rEcho, rDcs, expectByte]
    refine askRead_queue fun b u => ?_
    rw [hite]
    rfl
  case aWait | rWait | gWait => exact waitVisit_queue (fun _ => rfl) fun _ => rfl
  case bLow | kHold => exact delayVisit_queue fun _ => rfl
  case rData =>
    unfold rData
    rw [show (s.queue is).sub = s.sub from rfl]
    split
    case h_4 => simp only [Option.map_some, hite]; rfl
    all_goals exact askRead_queue fun _ _ => rfl
  case bSettle =>
    unfold bSettle
    rw [show (s.queue is).sub = s.sub from rfl]
    split
    case h_1 => rfl
    all_goals exact delayVisit_queue fun _ => rfl
  case aEval =>
    rw [aEval_eq, aEval_eq, Option.map_some, hite]
    rfl
  case bInit =>
    unfold bInit
    rw [show (s.queue is).sub = s.sub from rfl]
    split <;> rfl
  case wCheck | rCheck | rSize =>
    simp only [wCheck, rCheck, rSize, Option.map_some, hite]
    rfl
  all_goals rfl

theorem resume_queue : resume (s.queue is) = (resume s).queue is := by
  have hrun (n : Nat) (u : State) : runVisits n (u.queue is) = (runVisits n u).queue is := by
    induction n generalizing u with
    | zero => rfl
    | succ n ih =>
      rw [runVisits, runVisits, tick_queue]
      cases tick u with
      | none => rfl
      | some v => exact ih v
  exact hrun _ s

end

/-! ## Later answers -/

/-- The operands of a frame under construction are admitted, and its transaction carries no reads. -/
structure FrameAhead (s : State) : Prop where
  admitted : s.ph ∈ Phase.wOpen :: Phase.building → tooLong s.cfg s.hlen s.blen = false
  not_reading : s.ph ∈ Phase.building → s.txn ≠ .reading

theorem FrameAhead.queue {s : State} (h : FrameAhead s) (is : List Input) : FrameAhead (s.queue is) :=
  ⟨h.admitted, h.not_reading⟩

/-- R100 steps 1 to 4. -/
theorem wCheck_frameAhead (s : State) : FrameAhead (wCheck s) := by
  unfold wCheck
  split
  · exact ⟨by simp [Phase.building], by simp [Phase.building]⟩
  · dsimp only
    split
    · exact ⟨by simp [Phase.building], by simp [Phase.building]⟩
    · next hl => exact ⟨fun _ => by simpa using hl, by simp [Phase.building]⟩

theorem emitByte_not_reading {b : Byte} {k : State → State} {s t : State} (h : emitByte b k s = some t)
    (hk : ∀ u, (k u).txn = u.txn) : t.ph ∈ Phase.building → t.txn ≠ .reading := by
  obtain ⟨as, -, rfl⟩ | ⟨as, -, rfl⟩ := emitByte_cases h
  · simp [hk]
  · simp [Phase.building]

theorem tick_frameAhead {s t : State} (h : tick s = some t) (hs : FrameAhead s) : FrameAhead t := by
  have hedge := s.ph.building_of_edge _ (tick_visit h).edge
  by_cases hc : s.ph = .wCheck
  · simp only [tick, hc, Option.some.injEq] at h
    exact h ▸ wCheck_frameAhead s
  have o := tick_sameOperands h
  refine ⟨fun ht => ?_, fun ht => ?_⟩
  · rw [o.cfg, o.hlen, o.blen]
    exact hs.admitted ((List.mem_cons.1 (hedge ht)).resolve_left hc)
  · have hp := (List.mem_cons.1 (hedge (List.mem_cons_of_mem _ ht))).resolve_left hc
    simp only [Phase.building, List.mem_cons, List.not_mem_nil, or_false] at hp
    obtain hp | hp | hp | hp | hp | hp | hp := hp <;> simp only [tick, hp, Option.some.injEq, wHdr, wBody] at h
    · subst h; simp [wOpen]
    · exact emitByte_not_reading h (fun u => by split <;> rfl) ht
    · exact emitByte_not_reading h (fun u => by split <;> rfl) ht
    · exact emitByte_not_reading h (fun u => by split <;> rfl) ht
    · exact emitByte_not_reading h (fun u => rfl) ht
    · exact emitByte_not_reading h (fun u => rfl) ht
    · subst h; simp [wCommit, Phase.building] at ht

theorem resume_of_ended {s t : State} (h : tick s = some t) (hi : t.ph = .idle) : resume s = t :=
  (resume_of_tick h).trans (resume_of_rest (tick_idle hi))

/-- Behind the `BusEnd` of a read transaction, and of WAKE's, the operation ends and asks for nothing more. -/
theorem ended_of_close {s : State} (h : s.ph = .aClose ∨ s.ph = .rClose ∨ s.ph = .kClose ∨ s.ph = .xClose) :
    (resume s).busy = false := by
  obtain hp | hp | hp | hp := h
  · have h1 : tick s = some (aClose s) := by simp only [tick, hp]
    have h2 : tick (aClose s) = some (aEval (aClose s)) := rfl
    have h3 : (aEval (aClose s)).ph = .idle ∧ (aEval (aClose s)).busy = false := by
      rw [aEval_eq]
      split <;> exact ⟨rfl, rfl⟩
    rw [resume_of_tick h1, resume_of_ended h2 h3.1]
    exact h3.2
  · rw [resume_of_ended (t := rClose s) (by simp only [tick, hp]) rfl]; rfl
  · rw [resume_of_ended (t := kClose s) (by simp only [tick, hp]) rfl]; rfl
  · rw [resume_of_ended (t := xClose s) (by simp only [tick, hp]) rfl]; rfl

/-- A run that waits goes on with later answers as it would have with the answers there from the start (R57). -/
theorem resume_more {s : State} (hs : FrameAhead s) (hb : (resume s).busy = true) (ns : List Nat) (rs as : List Bool)
    (bs : List Byte) : resume (s.more ns rs as bs) = resume ((resume s).more ns rs as bs) := by
  induction hn : visitsLeft s using Nat.strong_induction_on generalizing s with
  | _ n ih =>
    cases ht : tick s with
    | none => rw [resume_of_rest ht]
    | some t =>
      have hm : tick (s.more ns rs as bs) = some (t.more ns rs as bs) := by
        refine tick_more ht fun hp => ?_
        obtain hp | hp := hp
        · exact hs.not_reading (by simp [hp, Phase.building])
        · simp [ended_of_close hp] at hb
      rw [resume_of_tick ht] at hb ⊢
      rw [resume_of_tick hm]
      exact ih _ (hn ▸ tick_visitsLeft ht) (tick_frameAhead ht hs) hb rfl

theorem startOperation_frameAhead {c : OpCode} {ph : Phase} (hp : firstPhase c = some ph) (s : State) :
    FrameAhead (startOperation c ph s) := by
  have ho := (firstPhase_outside hp).1
  exact ⟨fun h => absurd h ho, fun h => absurd (List.mem_cons_of_mem _ h) ho⟩

/-- An operation that waits has started and run. -/
theorem exec_busy {c : OpCode} {s t : State} (hb : s.busy = false) (he : exec (decodeOpCode c) s = .next t)
    (ht : t.busy = true) : ∃ ph, firstPhase c = some ph ∧ t = resume (startOperation c ph s) := by
  cases hp : firstPhase c with
  | none =>
    cases (exec_reserved hb hp).symm.trans he
    simp [hb] at ht
  | some ph =>
    cases (exec_operation hb hp).symm.trans he
    exact ⟨ph, rfl, rfl⟩

theorem exec_frameAhead {c : OpCode} {s t : State} (hb : s.busy = false) (he : exec (decodeOpCode c) s = .next t)
    (ht : t.busy = true) : FrameAhead t := by
  obtain ⟨ph, hp, rfl⟩ := exec_busy hb he ht
  exact resume_keeps (fun _ _ h hs => tick_frameAhead h hs) (startOperation_frameAhead hp s)

/-- Answers that come while an operation waits, with another queue behind them, give what `exec` gives with them placed
beforehand. -/
theorem exec_more {c : OpCode} {s t : State} (hb : s.busy = false) (he : exec (decodeOpCode c) s = .next t)
    (ht : t.busy = true) (is : List Input) (ns : List Nat) (rs as : List Bool) (bs : List Byte) :
    exec (decodeOpCode c) ((s.queue is).more ns rs as bs) = .next (resume ((t.queue is).more ns rs as bs)) := by
  obtain ⟨ph, hp, rfl⟩ := exec_busy hb he ht
  have hq : resume (startOperation c ph (s.queue is)) = (resume (startOperation c ph s)).queue is :=
    resume_queue (s := startOperation c ph s)
  have hm := resume_more (startOperation_frameAhead hp (s.queue is)) (by rw [hq]; exact ht) ns rs as bs
  rw [hq] at hm
  exact (exec_operation (s := (s.queue is).more ns rs as bs) hb hp).trans (congrArg _ hm)

/-! ## Bytes on the bus -/

theorem extractLsb_append_one {b : Byte} (h : b.getLsbD 0 = true) : b.extractLsb' 1 7 ++ (1 : BitVec 1) = b := by
  revert h b
  decide

theorem checkFrame_eq_ok {i j : Instr} {len : Byte} {rest : List Byte} (h : checkFrame i len rest = .ok j) : j = i := by
  unfold checkFrame at h
  split at h
  · cases h
  · split at h <;> cases h
    rfl

/-- R61 to R65: the row that the decoder finds has the bytes that it was given. -/
theorem encode_of_decodeWire {bs : List Byte} {i : Instr} (h : decodeWire bs = .ok i) : encode i = .wire bs := by
  unfold decodeWire at h
  split at h
  · cases h
  · next b =>
    split at h
    · next hb => cases h; exact congrArg (fun x => Encoding.wire [x]) (extractLsb_append_one hb)
    · cases h
  · next p s1 s2 len lcs tfi rest _ =>
    split at h
    · next ha => cases h; rw [ha]; rfl
    · repeat' split at h
      any_goals cases h
      all_goals
        obtain rfl := checkFrame_eq_ok h
        simp_all [encode, frameHead]
  · cases h

theorem decodeWire_cmdFrame {len lcs : Byte} {rest : List Byte} (h : rest.length = len.toNat + 1) :
    decodeWire (frameHead len lcs 0xD4 ++ rest) = .ok (.cmdFrame len lcs rest) := by
  simp [decodeWire, frameHead, ackFrameBytes, checkFrame, h]

/-- R62: the decoder takes the frame for admitted operands for a command frame. -/
theorem decodeWire_commandFrame {s : State} (h : tooLong s.cfg s.hlen s.blen = false) :
    ∃ len lcs rest, decodeWire (commandFrame s) = .ok (.cmdFrame len lcs rest) := by
  have hle : frameLen s.hlen s.blen ≤ s.cfg.maxlen.toNat := by simpa [tooLong] using h
  have hmax := s.cfg.maxlen.isLt
  have hlen : (BitVec.ofNat 8 ((commandData s).length + 1)).toNat = (commandData s).length + 1 := by
    rw [BitVec.toNat_ofNat, commandData_length]
    unfold frameLen at hle
    omega
  have hd := decodeWire_cmdFrame (len := BitVec.ofNat 8 ((commandData s).length + 1))
    (lcs := lcsGen (BitVec.ofNat 8 ((commandData s).length + 1)))
    (rest := commandData s ++ [dcsGen (sumBytes 0xD4 (commandData s)), s.cfg.postamble]) (by rw [hlen]; simp)
  rw [commandFrame, generalFrame, List.append_assoc]
  exact ⟨_, _, _, hd⟩

/-- Bytes that land while the engine is not about to emit them come from the chip. -/
theorem landWire_offer {bs : List Byte} {s : State} (h : aboutToEmit bs s = false) : landWire bs s = offer bs s := by
  unfold landWire
  split
  · exact if_neg (by simp [h])
  · rfl

theorem exec_of_decodeWire {bs : List Byte} {i : Instr} (h : decodeWire bs = .ok i) (s : State) :
    exec i s = .next (resume (landWire bs s)) := by
  have hb : wireBytes i = bs := by simp only [wireBytes, encode_of_decodeWire h]
  have he := encode_of_decodeWire h
  unfold landWire
  rw [h]
  cases i with
  | cmdFrame len lcs rest =>
    simp only [exec, execCmdFrame, hb]
    split <;> rfl
  | rspFrame len lcs rest => simp only [exec, execRspFrame, hb]; rfl
  | ackFrame => simp only [exec, execAckFrame, hb]; rfl
  | statusByte ignored => simp only [exec, execStatusByte, hb]; rfl
  | _ => cases he

/-- Bytes on the bus land, as an instruction or not, and the engine goes on. -/
theorem step_wire {s : State} {bs : List Byte} {rest : List Input} (h : s.inputs = .wire bs :: rest) :
    step s = .next (resume (landWire bs { s with inputs := rest })) := by
  cases hd : decodeWire bs with
  | ok i =>
    have hf : fetch s = some (i, { s with inputs := rest }) := by simp [fetch, h, hd]
    simp only [step, hf, exec_of_decodeWire hd]
  | error e =>
    have hf : fetch s = none := by simp [fetch, h, hd]
    simp only [step, hf, h, hostInput, deliver, landWire, hd]

/-- The frame that the engine is about to emit is a command frame on the bus, and its writes are accepted (entry 11). -/
theorem landWire_acceptAll {bs : List Byte} {s : State} (hs : FrameAhead s) (h : aboutToEmit bs s = true) :
    landWire bs s = acceptAll bs s := by
  have ha := h
  simp only [aboutToEmit, Bool.and_eq_true, beq_iff_eq] at ha
  obtain ⟨⟨⟨hp, -⟩, -⟩, rfl⟩ := ha
  obtain ⟨len, lcs, rest, hd⟩ := decodeWire_commandFrame (hs.admitted (by simp [hp, Phase.building]))
  simp [landWire, hd, h]

/-- Settles O60: each answer lands as one more answer, and the run goes on as it would have with it. -/
theorem answersMayComeLater : Obligations.AnswersMayComeLater := by
  intro c s t rest hb he ht
  have key := exec_more hb he ht rest
  have hf : FrameAhead (t.queue rest) := (exec_frameAhead hb he ht).queue rest
  refine ⟨fun v => ?_, fun v => ?_, fun v => ?_, fun bs ha => ?_, fun bs ha => ?_⟩
  · simpa [step, fetch, hostInput, State.more, State.queue] using (key [v] [] [] []).symm
  · simpa [step, fetch, hostInput, State.more, State.queue] using (key [] [v] [] []).symm
  · simpa [step, fetch, hostInput, State.more, State.queue] using (key [] [] [v] []).symm
  · have hland : landWire bs (t.queue rest) = (t.queue rest).more [] [] [] bs :=
      (landWire_offer (s := t.queue rest) ha).trans (offer_eq_more bs _)
    have hstep : step { t with inputs := .wire bs :: rest } = _ :=
      (step_wire rfl).trans (congrArg (Host.Outcome.next ∘ resume) hland)
    simpa [State.more, State.queue] using hstep.trans (key [] [] [] bs).symm
  · have hland : landWire bs (t.queue rest) = (t.queue rest).more [] [] (List.replicate bs.length true) [] :=
      (landWire_acceptAll hf ha).trans (acceptAll_eq_more ha)
    have hstep : step { t with inputs := .wire bs :: rest } = _ :=
      (step_wire rfl).trans (congrArg (Host.Outcome.next ∘ resume) hland)
    simpa [State.more, State.queue] using hstep.trans (key [] [] (List.replicate bs.length true) []).symm

end Sys2Proof.Machine
end

section
/-! PROOFS. The encodings: what the decoder accepts is exactly the encodings of the well-formed instructions. -/

namespace Sys2Proof.Machine

/-! ## The host's channel -/

theorem wf_decodeOpCode (c : OpCode) : (decodeOpCode c).wf = true := by
  revert c
  decide

/-! ## The bus -/

/-- R75: a frame is taken exactly when it is `LEN + 7` bytes long. -/
theorem checkFrame_eq_ok_iff {i j : Instr} {len : Byte} {rest : List Byte} :
    checkFrame i len rest = .ok j ↔ j = i ∧ rest.length = len.toNat + 1 := by
  unfold checkFrame
  split
  · simp; omega
  · split
    · simp; omega
    · simp only [Except.ok.injEq]
      exact ⟨fun h => ⟨h.symm, by omega⟩, fun h => h.1.symm⟩

/-- R61, R62: with this `TFI` only the length is left to check. -/
theorem decodeWire_frameHead_D4 (len lcs : Byte) (rest : List Byte) :
    decodeWire (frameHead len lcs 0xD4 ++ rest) = checkFrame (.cmdFrame len lcs rest) len rest := by
  simp [decodeWire, frameHead, ackFrameBytes]

/-- R61, R63: and so with this one. -/
theorem decodeWire_frameHead_D5 (len lcs : Byte) (rest : List Byte) :
    decodeWire (frameHead len lcs 0xD5 ++ rest) = checkFrame (.rspFrame len lcs rest) len rest := by
  simp [decodeWire, frameHead, ackFrameBytes]

/-- R65: the two parts of a status byte. -/
theorem decodeWire_statusByte (h : BitVec 7) : decodeWire [h ++ (1 : BitVec 1)] = .ok (.statusByte h) := by
  revert h
  decide

/-- What the decoder takes for a frame has the length of one. -/
theorem wf_of_decodeWire {bs : List Byte} {i : Instr} (h : decodeWire bs = .ok i) : i.wf = true := by
  have he := encode_of_decodeWire h
  cases i with
  | cmdFrame len lcs rest =>
    obtain rfl := Encoding.wire.inj he
    rw [decodeWire_frameHead_D4, checkFrame_eq_ok_iff] at h
    simpa [Instr.wf] using h
  | rspFrame len lcs rest =>
    obtain rfl := Encoding.wire.inj he
    rw [decodeWire_frameHead_D5, checkFrame_eq_ok_iff] at h
    simpa [Instr.wf] using h
  | _ => rfl

/-! ## Both channels -/

/-- Settles O1: a code by its row, a frame by its `TFI` and its length, a status byte by its bit 0. -/
theorem decodeOfEncodeIsIdentity : Obligations.DecodeOfEncodeIsIdentity := by
  intro i h
  cases i with
  | cmdFrame len lcs rest =>
    exact (decodeWire_frameHead_D4 len lcs rest).trans (checkFrame_eq_ok_iff.2 ⟨rfl, by simpa [Instr.wf] using h⟩)
  | rspFrame len lcs rest =>
    exact (decodeWire_frameHead_D5 len lcs rest).trans (checkFrame_eq_ok_iff.2 ⟨rfl, by simpa [Instr.wf] using h⟩)
  | statusByte ignored => exact decodeWire_statusByte ignored
  | _ => rfl

/-- Settles O2: on each channel the decoder's answer encodes to what it was given. -/
theorem encodeOfDecodeIsIdentity : Obligations.EncodeOfDecodeIsIdentity := by
  intro e i h
  cases e with
  | opsel c =>
    obtain rfl : decodeOpCode c = i := Except.ok.inj h
    exact ⟨wf_decodeOpCode c, encode_decodeOpCode c⟩
  | wire bs =>
    have hw : decodeWire bs = .ok i := h
    exact ⟨wf_of_decodeWire hw, encode_of_decodeWire hw⟩

/-- Settles O3: the decoder computes each of these words. -/
theorem specWordsDecode : Obligations.SpecWordsDecode := by
  unfold Obligations.SpecWordsDecode
  decide

end Sys2Proof.Machine
end

section
/-! PROOFS. How a run takes the bytes that the chip has to send: one rule for a read, and from it the runs through the
seven bytes of an ACK read and through a response frame, position by position. -/

namespace Sys2Proof.Machine

/-! ## One read -/

/-- What the engine holds after it has read `bs` in its transaction, with `more` still to come. -/
def State.took (s : State) (bs more : List Byte) : State :=
  { s with reads := more, txn := .reading, trace := s.trace ++ readEvents bs }

/-- A run takes the next byte as its phase says. -/
theorem resume_read {k : Byte → State → State} {s : State} {b : Byte} {bs : List Byte}
    (ht : tick s = askRead k s) (hr : s.reads = b :: bs) : resume s = resume (k b (s.took [b] bs)) :=
  resume_of_tick (by rw [ht, askRead, hr]; rfl)

/-- R161: a check that fails ends the operation behind one `BusEnd`. -/
theorem resume_abortTxn (k : Cause) (s : State) : resume (abortTxn k s) = abort k (busEnd s) :=
  resume_of_ended (t := abort k (busEnd s)) rfl rfl

/-! ## ACK_CHECK (R110) -/

/-- R110 step 3: the bytes of the ACK read fill `ACKBUF` from index `IDX` on. -/
theorem resume_aRead (bs : List Byte) {s : State} {more : List Byte} (hp : s.ph = .aRead) (hr : s.reads = bs ++ more)
    (hl : s.idx.toNat + bs.length = 7) (hi : s.idx.toNat ≤ 6) :
    ∃ buf : Vector Byte 7, buf.toList = s.ackbuf.toList.take s.idx.toNat ++ bs ∧
      resume s = resume { s.took bs more with ackbuf := buf, idx := 6, ph := .aClose } := by
  induction bs generalizing s with
  | nil => simp at hl; omega
  | cons b bs ih =>
    simp only [List.length_cons] at hl
    have ht : tick s = aRead s := by simp only [tick, hp]
    have hread := resume_read ht hr
    have hbuf : (s.ackbuf.setIfInBounds s.idx.toNat b).toList.take (s.idx.toNat + 1) =
        s.ackbuf.toList.take s.idx.toNat ++ [b] := by
      rw [Vector.toList_setIfInBounds, take_set_succ (by simp; omega)]
    by_cases hlt : s.idx.toNat < 6
    · have hidx : (s.idx + 1).toNat = s.idx.toNat + 1 := by bv_omega
      obtain ⟨buf, hb, hrun⟩ := ih (s := { s.took [b] (bs ++ more) with
        ackbuf := s.ackbuf.setIfInBounds s.idx.toNat b, idx := s.idx + 1 }) hp rfl (by rw [hidx]; omega)
        (by rw [hidx]; omega)
      refine ⟨buf, ?_, (hread.trans (congrArg resume (if_pos hlt))).trans (hrun.trans ?_)⟩
      · rw [hb, hidx, hbuf, List.append_assoc]
        rfl
      · simp [State.took, readEvents]
    · have h6 : s.idx = 6 := BitVec.eq_of_toNat_eq (by simp; omega)
      obtain rfl : bs = [] := List.eq_nil_of_length_eq_zero (by omega)
      refine ⟨s.ackbuf.setIfInBounds s.idx.toNat b, ?_, (hread.trans (congrArg resume (if_neg hlt))).trans ?_⟩
      · rw [← hbuf, List.take_of_length_le (by simp [h6])]
      · simp [State.took, h6]

/-- R110 steps 4 to 7: the transaction is closed, and the verdict ends the operation. -/
theorem resume_aClose {s : State} (hp : s.ph = .aClose) :
    resume s = abort (ackVerdict s.ackbuf) { busEnd s with ph := .aEval } := by
  have hc : tick s = some { busEnd s with ph := .aEval } := by simp only [tick, hp, aClose]
  have he : aEval { busEnd s with ph := .aEval } = abort (ackVerdict s.ackbuf) { busEnd s with ph := .aEval } := by
    rw [aEval_eq]
    split
    · next hv => rw [show ackVerdict s.ackbuf = .none from hv]; rfl
    · rfl
  rw [resume_of_tick hc]
  exact resume_of_ended (congrArg some he) rfl

/-- R110: six bytes that come after the status byte. -/
theorem resume_ackRest {s : State} {bs : List Byte} (hp : s.ph = .aRead) (hi : s.idx = 1) (hr : s.reads = bs)
    (hl : bs.length = 6) : ∃ buf, resume s = abort
      (if s.ackbuf[0].getLsbD 0 = false then .ackStatusNotReady
        else if bs ≠ ackRom then .ackPatternMismatch else .none)
      { busEnd (s.took bs []) with ackbuf := buf, idx := 6, ph := .aEval } := by
  obtain ⟨buf, hb, hrun⟩ := resume_aRead bs (more := []) hp (by simpa using hr) (by simp [hi, hl]) (by simp [hi])
  have hbuf : buf.toList = s.ackbuf[0] :: bs := by rw [hb, hi, toList_seven]; rfl
  refine ⟨buf, hrun.trans ((resume_aClose rfl).trans ?_)⟩
  rw [← ackVerdict_of_toList hbuf]
  rfl

/-- Settles O34: the six bytes are those that the verdict asks for, so it is the status bit's. -/
theorem ackFrameCompletes : Obligations.AckFrameCompletes := by
  intro s hp hi hr
  obtain ⟨buf, hrun⟩ := resume_ackRest (s := offer ackFrameBytes s) (bs := ackRom) hp hi
    (by simp [offer, hr, ackFrameBytes, ackRom]) rfl
  refine ⟨_, congrArg Host.Outcome.next hrun, ?_⟩
  rw [show (offer ackFrameBytes s).ackbuf = s.ackbuf from rfl]
  cases hst : s.ackbuf[0].getLsbD 0 <;> simp [EndedWith, State.took, offer, Cause.result]

/-! ## A status byte (R65) -/

theorem statusReady_append_one (h : BitVec 7) : statusReady (h ++ 1#1) = true := by
  revert h
  decide

theorem took_offer {s : State} (hr : s.reads = []) (bs : List Byte) :
    (offer bs s).took bs [] = { s with txn := .reading, trace := s.trace ++ readEvents bs } := by
  simp [State.took, offer, hr]

theorem rPre_rests {s : State} (hp : s.ph = .rPre) (hr : s.reads = []) : tick s = none := by
  simp only [tick, hp, rPre, expectByte, askRead_eq_none, hr]

theorem aRead_rests {s : State} (hp : s.ph = .aRead) (hr : s.reads = []) : tick s = none := by
  simp only [tick, hp, aRead, askRead_eq_none, hr]

/-- Settles O33: the phase takes the byte, and waits for the next one. -/
theorem statusByteCompletes : Obligations.StatusByteCompletes := by
  intro s h hr
  have hoff : (offer [h ++ 1#1] s).reads = [h ++ 1#1] := by simp [offer, hr]
  refine ⟨fun hp => ?_, fun hp hi => ?_⟩
  · have ht : tick (offer [h ++ 1#1] s) = rStatus (offer [h ++ 1#1] s) := by
      simp only [tick, show (offer [h ++ 1#1] s).ph = .rStatus from hp]
    refine congrArg Host.Outcome.next ((resume_read ht hoff).trans ?_)
    rw [took_offer hr]
    dsimp only
    rw [if_pos (statusReady_append_one h)]
    exact resume_of_rest (rPre_rests rfl hr)
  · have ht : tick (offer [h ++ 1#1] s) = aRead (offer [h ++ 1#1] s) := by
      simp only [tick, show (offer [h ++ 1#1] s).ph = .aRead from hp]
    refine congrArg Host.Outcome.next ((resume_read ht hoff).trans ?_)
    rw [took_offer hr]
    dsimp only
    rw [hi, if_pos (by decide)]
    refine (resume_of_rest (aRead_rests (by exact hp) (by exact hr))).trans ?_
    have hset : s.ackbuf.setIfInBounds 0 (h ++ 1#1) = s.ackbuf.set 0 (h ++ 1#1) := by
      ext i hi
      simp [Vector.getElem_setIfInBounds, Vector.getElem_set]
    rw [← hset]
    rfl

end Sys2Proof.Machine
end

section
/-! PROOFS. A response frame, position by position: what a run makes of its head, its echo and length, its payload and
its end. -/

namespace Sys2Proof.Machine

theorem lcsOk_lcsGen (len : Byte) : lcsOk len (lcsGen len) = true := by simp [lcsOk, lcsGen]

theorem dcsOk_dcsGen (sum : Byte) : dcsOk sum (dcsGen sum) = true := by simp [dcsOk, dcsGen]

/-! ## One position each (R120) -/

section
variable {s : State} {b : Byte} {more : List Byte} (hr : s.reads = b :: more)
include hr

/-- A byte that must have one value. -/
theorem resume_expect {want : Byte} {k : Cause} {next : Phase} (ht : tick s = expectByte want k next s) :
    resume s = if b = want then resume { s.took [b] more with ph := next } else abort k (busEnd (s.took [b] more)) := by
  refine (resume_read ht hr).trans ?_
  split
  · rfl
  · exact resume_abortTxn k _

theorem resume_rPre (hp : s.ph = .rPre) : resume s =
    if b = 0x00 then resume { s.took [b] more with ph := .rSc1 } else abort .badPreamble (busEnd (s.took [b] more)) :=
  resume_expect hr (by simp only [tick, hp, rPre])

theorem resume_rSc1 (hp : s.ph = .rSc1) : resume s =
    if b = 0x00 then resume { s.took [b] more with ph := .rSc2 }
    else abort .badStartCode1 (busEnd (s.took [b] more)) :=
  resume_expect hr (by simp only [tick, hp, rSc1])

theorem resume_rSc2 (hp : s.ph = .rSc2) : resume s =
    if b = 0xFF then resume { s.took [b] more with ph := .rLen }
    else abort .badStartCode2 (busEnd (s.took [b] more)) :=
  resume_expect hr (by simp only [tick, hp, rSc2])

theorem resume_rLen (hp : s.ph = .rLen) : resume s = resume { s.took [b] more with lenr := b, ph := .rLcs } :=
  resume_read (k := fun b s => { s with lenr := b, ph := .rLcs }) (by simp only [tick, hp, rLen]) hr

theorem resume_rLcs (hp : s.ph = .rLcs) : resume s =
    if lcsOk s.lenr b then resume { s.took [b] more with ph := .rTfi }
    else abort .badLcs (busEnd (s.took [b] more)) := by
  refine (resume_read (k := fun b s => if lcsOk s.lenr b then { s with ph := .rTfi } else abortTxn .badLcs s)
    (by simp only [tick, hp, rLcs]) hr).trans ?_
  rw [show (s.took [b] more).lenr = s.lenr from rfl]
  split
  · rfl
  · exact resume_abortTxn _ _

theorem resume_rTfi (hp : s.ph = .rTfi) : resume s =
    if b = 0xD5 then resume { s.took [b] more with ph := .rEcho } else abort .badTfi (busEnd (s.took [b] more)) :=
  resume_expect hr (by simp only [tick, hp, rTfi])

theorem resume_rEcho (hp : s.ph = .rEcho) : resume s =
    if echoOk s.pendcmd b then resume { s.took [b] more with echo := b, ph := .rSize }
    else abort .badEcho (busEnd (s.took [b] more)) := by
  refine (resume_read (k := fun b s =>
    let s := { s with echo := b }
    if echoOk s.pendcmd b then { s with ph := .rSize } else abortTxn .badEcho s)
    (by simp only [tick, hp, rEcho]) hr).trans ?_
  dsimp only
  rw [show (s.took [b] more).pendcmd = s.pendcmd from rfl]
  split
  · rfl
  · exact resume_abortTxn _ _

theorem resume_rDcs (hp : s.ph = .rDcs) : resume s =
    if dcsOk s.sum b then resume { s.took [b] more with ph := .rPost }
    else abort .badDcs (busEnd { s.took [b] more with log := s.log ++ [.checksumFailure] }) := by
  refine (resume_read (k := fun b s => if dcsOk s.sum b then { s with ph := .rPost }
    else abortTxn .badDcs { s with log := s.log ++ [.checksumFailure] }) (by simp only [tick, hp, rDcs]) hr).trans ?_
  rw [show (s.took [b] more).sum = s.sum from rfl]
  split
  · rfl
  · exact resume_abortTxn _ _

/-- The postamble is any byte, and behind it the operation ends. -/
theorem resume_rPost (hp : s.ph = .rPost) : resume s = complete (busEnd { s.took [b] more with ph := .rClose }) :=
  (resume_read (k := fun _ s => { s with ph := .rClose }) (by simp only [tick, hp, rPost]) hr).trans
    (resume_of_ended (t := complete (busEnd { s.took [b] more with ph := .rClose })) rfl rfl)

/-- A payload byte is read, then stored and summed. -/
theorem resume_rData_one (hp : s.ph = .rData) (hs : s.sub = .latch) : resume s = resume (
    if s.idx.toNat + 1 < s.plen.toNat then { s.took [b] more with
      rbuf := s.rbuf.write s.idx.toNat b, rbyte := b, sum := sumAdd s.sum b, idx := s.idx + 1 }
    else { s.took [b] more with
      rbuf := s.rbuf.write s.idx.toNat b, rbyte := b, sum := sumAdd s.sum b, ph := .rDcs }) := by
  have ht : tick s = askRead (fun b s => { s with rbyte := b, sub := .ready }) s := by simp only [tick, hp, rData, hs]
  refine (resume_read ht hr).trans (resume_of_tick ?_)
  simp only [tick, State.took, hp, rData, writeRbuf, hs]

end

/-! ## Several positions -/

/-- R120 steps 5 to 9: a frame that starts as every frame does, up to the check of its `LCS`. -/
theorem resume_frameStart {s : State} {len lcs : Byte} {more : List Byte} (hp : s.ph = .rPre)
    (hr : s.reads = 0x00 :: 0x00 :: 0xFF :: len :: lcs :: more) : resume s =
      if lcsOk len lcs then resume { s.took [0x00, 0x00, 0xFF, len, lcs] more with lenr := len, ph := .rTfi }
      else abort .badLcs (busEnd { s.took [0x00, 0x00, 0xFF, len, lcs] more with lenr := len, ph := .rLcs }) := by
  rw [resume_rPre hr hp, if_pos rfl, resume_rSc1 rfl rfl, if_pos rfl, resume_rSc2 rfl rfl, if_pos rfl,
    resume_rLen rfl rfl, resume_rLcs rfl rfl]
  split <;> simp [State.took, readEvents]

/-- R120 step 15: the payload, from index `IDX` on; the last byte read and its index are left in the engine. -/
theorem resume_rData (bs : List Byte) {s : State} {b : Byte} {more : List Byte} (hp : s.ph = .rData)
    (hs : s.sub = .latch) (hr : s.reads = b :: (bs ++ more)) (hl : s.idx.toNat + 1 + bs.length = s.plen.toNat) :
    ∃ i x, resume s = resume { s.took (b :: bs) more with
      rbuf := s.rbuf.writeBytes s.idx.toNat (b :: bs), sum := sumBytes s.sum (b :: bs), idx := i, rbyte := x,
      ph := .rDcs } := by
  induction bs generalizing s b with
  | nil =>
    refine ⟨s.idx, b, ?_⟩
    rw [resume_rData_one hr hp hs, if_neg (by simp at hl; omega)]
    rfl
  | cons c bs ih =>
    simp only [List.length_cons] at hl
    have hidx : (s.idx + 1).toNat = s.idx.toNat + 1 := by bv_omega
    obtain ⟨i, x, hrun⟩ := ih (s := { s.took [b] (c :: (bs ++ more)) with
      rbuf := s.rbuf.write s.idx.toNat b, rbyte := b, sum := sumAdd s.sum b, idx := s.idx + 1 }) hp hs rfl
      (by simp only [hidx]; exact hl ▸ by omega)
    refine ⟨i, x, ?_⟩
    rw [resume_rData_one hr hp hs, if_pos (by omega)]
    refine hrun.trans ?_
    have hw : s.rbuf.writeBytes s.idx.toNat (b :: c :: bs) =
        (s.rbuf.write s.idx.toNat b).writeBytes (s.idx + 1).toNat (c :: bs) := by
      rw [hidx]
      rfl
    rw [hw]
    simp [State.took, readEvents, sumBytes]

/-- R120 steps 12 to 15: a length that fits, then the payload. -/
theorem resume_rSize (payload : List Byte) {s : State} {more : List Byte} (hp : s.ph = .rSize)
    (htx : s.txn = .reading) (hr : s.reads = payload ++ more) (hlen : s.lenr.toNat = payload.length + 2)
    (hmax : payload.length ≤ s.maxl.toNat) :
    ∃ i x, resume s = resume { s.took payload more with
      plen := s.lenr - 2, rbuf := s.rbuf.writeBytes 0 payload, sum := sumBytes 0xD5 (s.echo :: payload), idx := i,
      rbyte := x, sub := .latch, ph := .rDcs } := by
  have hsub : (s.lenr - 2).toNat = payload.length := by bv_omega
  have ht : tick s = some { s with
      plen := s.lenr - 2, sum := sumAdd 0xD5 s.echo, idx := 0, sub := .latch,
      ph := if s.lenr - 2 = 0 then .rDcs else .rData } := by
    have h1 : lenTooShort s.lenr = false := by simp [lenTooShort]; omega
    have h2 : noSpace (s.lenr - 2) s.maxl = false := by simp only [noSpace, hsub]; simpa using hmax
    simp only [tick, hp, rSize, h1, h2, Bool.false_eq_true, if_false]
  cases payload with
  | nil =>
    have hz : s.lenr - 2 = 0 := BitVec.eq_of_toNat_eq hsub
    refine ⟨0, s.rbyte, (resume_of_tick ht).trans (congrArg resume ?_)⟩
    rw [if_pos hz]
    simpa [State.took, readEvents, htx, Memory.writeBytes, sumBytes] using hr
  | cons b bs =>
    have hz : s.lenr - 2 ≠ 0 := fun h => by rw [h] at hsub; cases hsub
    rw [if_neg hz] at ht
    obtain ⟨i, x, hrun⟩ := resume_rData bs (s := { s with
      plen := s.lenr - 2, sum := sumAdd 0xD5 s.echo, idx := 0, sub := .latch, ph := .rData }) rfl rfl hr
      (by show 0 + 1 + bs.length = (s.lenr - 2).toNat; rw [hsub, List.length_cons]; omega)
    exact ⟨i, x, (resume_of_tick ht).trans hrun⟩

/-- R120 steps 16 to 19: a right `DCS`, the postamble, the end. -/
theorem resume_frameEnd {s : State} {dcs post : Byte} {more : List Byte} (hp : s.ph = .rDcs)
    (hr : s.reads = dcs :: post :: more) (hd : dcsOk s.sum dcs = true) :
    resume s = complete (busEnd { s.took [dcs, post] more with ph := .rClose }) := by
  rw [resume_rDcs hr hp, if_pos hd, resume_rPost rfl rfl]
  simp [State.took, readEvents]

/-! ## Whole frames -/

/-- R120 steps 5 to 19: a response frame that passes every check. -/
theorem resume_response {s : State} {len lcs echo dcs post : Byte} {payload more : List Byte} (hp : s.ph = .rPre)
    (hr : s.reads = 0x00 :: 0x00 :: 0xFF :: len :: lcs :: 0xD5 :: echo :: (payload ++ dcs :: post :: more))
    (hlcs : lcsOk len lcs = true) (hecho : echoOk s.pendcmd echo = true) (hlen : len.toNat = payload.length + 2)
    (hmax : payload.length ≤ s.maxl.toNat) (hdcs : dcsOk (sumBytes 0xD5 (echo :: payload)) dcs = true) :
    ∃ i x, resume s = complete (busEnd
      { s.took (0x00 :: 0x00 :: 0xFF :: len :: lcs :: 0xD5 :: echo :: (payload ++ [dcs, post])) more with
        lenr := len, echo := echo, plen := len - 2, rbuf := s.rbuf.writeBytes 0 payload,
        sum := sumBytes 0xD5 (echo :: payload), idx := i, rbyte := x, sub := .latch, ph := .rClose }) := by
  have hstart : resume s = resume { s.took [0x00, 0x00, 0xFF, len, lcs, 0xD5, echo]
      (payload ++ dcs :: post :: more) with lenr := len, echo := echo, ph := .rSize } := by
    rw [resume_frameStart hp hr, if_pos hlcs, resume_rTfi rfl rfl, if_pos rfl, resume_rEcho rfl rfl]
    refine (if_pos hecho).trans ?_
    simp [State.took, readEvents]
  obtain ⟨i, x, hrun⟩ := resume_rSize payload (s := { s.took [0x00, 0x00, 0xFF, len, lcs, 0xD5, echo]
    (payload ++ dcs :: post :: more) with lenr := len, echo := echo, ph := .rSize }) rfl rfl rfl hlen hmax
  refine ⟨i, x, hstart.trans (hrun.trans ((resume_frameEnd rfl rfl hdcs).trans ?_))⟩
  simp [State.took, readEvents]

/-- Settles O35: the frame passes every check. -/
theorem rspFrameCompletes : Obligations.RspFrameCompletes := by
  intro s payload post hp hr hff hle hmax
  dsimp only
  generalize hlen : BitVec.ofNat 8 (payload.length + 2) = len
  generalize hdcs : dcsGen (sumBytes 0xD5 ((s.pendcmd + 1) :: payload)) = dcs
  have hlenr : len.toNat = payload.length + 2 := by
    rw [← hlen, BitVec.toNat_ofNat]
    omega
  have hecho : echoOk s.pendcmd (s.pendcmd + 1) = true := (echoOk_iff _ _).2 (by bv_omega)
  have hbytes : wireBytes (.rspFrame len (lcsGen len) ((s.pendcmd + 1) :: payload ++ [dcs, post])) =
      0x00 :: 0x00 :: 0xFF :: len :: lcsGen len :: 0xD5 :: (s.pendcmd + 1) :: (payload ++ [dcs, post]) := rfl
  obtain ⟨i, x, hrun⟩ := resume_response (s := offer (wireBytes (.rspFrame len (lcsGen len)
    ((s.pendcmd + 1) :: payload ++ [dcs, post]))) s) (lcs := lcsGen len) (dcs := dcs) (post := post) (more := []) hp
    (by rw [hbytes]; simp [offer, hr])
    (lcsOk_lcsGen len) hecho hlenr hmax (hdcs ▸ dcsOk_dcsGen _)
  refine ⟨_, congrArg Host.Outcome.next hrun, ⟨rfl, rfl, rfl, rfl⟩, ?_, rfl, rfl, fun i => ?_, ?_⟩
  · show (len - 2).toNat = payload.length
    bv_omega
  · simp [offer, State.took, Memory.read_writeBytes]
  · rw [hbytes]
    rfl

/-- Settles O38: the ACK frame has 0x00 and 0xFF where a length and its `LCS` stand, a command frame has its own
`TFI`. -/
theorem framesOfTheWrongKindAreRejected : Obligations.FramesOfTheWrongKindAreRejected := by
  intro s hp hr
  refine ⟨?_, fun len rest => ?_⟩
  · have hrun := resume_frameStart (s := offer ackFrameBytes s) (len := 0x00) (lcs := 0xFF) (more := [0x00]) hp
      (by simp [offer, hr, ackFrameBytes])
    rw [if_neg (by decide)] at hrun
    exact ⟨_, congrArg Host.Outcome.next hrun, ⟨rfl, rfl, rfl, rfl⟩, rfl⟩
  · have ha : aboutToEmit (wireBytes (.cmdFrame len (lcsGen len) rest)) s = false := by simp [aboutToEmit, hp]
    have he : exec (.cmdFrame len (lcsGen len) rest) s = .next (deliver (frameHead len (lcsGen len) 0xD4 ++ rest) s) :=
      if_neg (by simp [ha])
    have hrun := resume_frameStart (s := offer (frameHead len (lcsGen len) 0xD4 ++ rest) s) (len := len)
      (lcs := lcsGen len) (more := 0xD4 :: rest) hp (by simp [offer, hr, frameHead])
    rw [if_pos (lcsOk_lcsGen len)] at hrun
    have htfi := hrun.trans (resume_rTfi rfl rfl)
    rw [if_neg (by decide)] at htfi
    exact ⟨_, he.trans (congrArg Host.Outcome.next htfi), ⟨rfl, rfl, rfl, rfl⟩, rfl⟩

end Sys2Proof.Machine
end

section
/-! PROOFS. With `PENDCMD = 0xFF` no echo passes, so no READ_RESPONSE gets behind the check of the echo; and the
reserved codes. -/

namespace Sys2Proof.Machine

/-! ## Reserved codes (R73) -/

/-- Settles O42: a code without a first phase is rejected at once. -/
theorem reservedCodesAreRejected : Obligations.ReservedCodesAreRejected := fun s hb =>
  ⟨exec_reserved (c := 5) (s := s) hb rfl, exec_reserved (c := 6) (s := s) hb rfl,
    exec_reserved (c := 7) (s := s) hb rfl⟩

/-! ## No response for 0xFF (R71) -/

/-- The phases of READ_RESPONSE up to the check of the echo. -/
def Phase.beforeEcho : List Phase :=
  [.rCheck, .rWait, .rOpen, .rStatus, .rPre, .rSc1, .rSc2, .rLen, .rLcs, .rTfi, .rEcho]

/-- R34: behind one of them stands another, R_SIZE behind R_ECHO alone, or an abort. -/
theorem Phase.edge_of_beforeEcho (p : Phase) : p ∈ Phase.beforeEcho → ∀ q ∈ p.successors,
    q ∈ Phase.beforeEcho ∨ q = .xClose ∨ q = .idle ∨ p = .rEcho ∧ q = .rSize := by
  cases p <;> decide

/-- R160: before the echo an operation ends with a cause that is no success. -/
theorem Phase.causes_of_beforeEcho (p : Phase) : p ∈ Phase.beforeEcho → .none ∉ p.causes := by
  cases p <;> decide

theorem rEcho_pendcmd_FF {s t : State} (h : rEcho s = some t) (hp : s.pendcmd = 0xFF) : t.ph = .xClose := by
  obtain ⟨b, bs, -, rfl⟩ := askRead_cases h
  have hno : echoOk s.pendcmd b = false := by
    refine Bool.eq_false_of_not_eq_true fun he => ?_
    rw [echoOk_iff, hp] at he
    have := b.isLt
    simp at he
    omega
  simp [hno]

/-- R121, R161: the causes that READ_RESPONSE carries through X_CLOSE. -/
theorem xcause_of_abortTxn {s t : State} (h : tick s = some t) (hp : s.ph ∈ Phase.beforeEcho) (ht : t.ph = .xClose) :
    t.xcause ≠ .none := by
  have hedge := (tick_visit h).edge
  cases hph : s.ph <;> rw [hph] at hp hedge <;> simp only [tick, hph, rPre, rSc1, rSc2, rTfi, expectByte] at h
  case rStatus | rPre | rSc1 | rSc2 | rLcs | rTfi | rEcho =>
    obtain ⟨b, bs, -, rfl⟩ := askRead_cases h
    dsimp only at ht ⊢
    split at ht
    · cases ht
    · next hf => rw [if_neg hf]; nofun
  all_goals
    simp [ht, Phase.successors, Phase.beforeEcho] at hedge hp

/-- A READ_RESPONSE with `PENDCMD = 0xFF` has not passed the check of the echo, and does not end with `Ok`. -/
structure Unanswered (s : State) : Prop where
  pendcmd : s.pendcmd = 0xFF
  place : s.ph ∈ Phase.beforeEcho ∨ s.ph = .xClose ∧ s.xcause ≠ .none ∨ s.ph = .idle ∧ s.cause ≠ .none

theorem tick_unanswered {s t : State} (h : tick s = some t) (hs : Unanswered s) : Unanswered t := by
  have v := tick_visit h
  obtain ⟨hff, hp | ⟨hp, hx⟩ | ⟨hp, -⟩⟩ := hs
  · have hne {p : Phase} (hn : p ∉ Phase.beforeEcho) : s.ph ≠ p := fun he => hn (he ▸ hp)
    refine ⟨(v.pairing (hne (by decide)) (hne (by decide))).1.trans hff, ?_⟩
    obtain hq | hq | hq | ⟨hp, hq⟩ := s.ph.edge_of_beforeEcho hp _ v.edge
    · exact .inl hq
    · exact .inr (.inl ⟨hq, xcause_of_abortTxn h hp hq⟩)
    · refine .inr (.inr ⟨hq, fun hc => ?_⟩)
      obtain hk | ⟨hk, -⟩ := (v.ends hq).2
      · exact s.ph.causes_of_beforeEcho hp (hc ▸ hk)
      · exact hne (by decide) hk
    · simp only [tick, hp] at h
      cases hq.symm.trans (rEcho_pendcmd_FF h hff)
  · have hq : t.ph = .idle := by simpa [hp, Phase.successors] using v.edge
    have hc : t.cause = s.xcause := by simpa [hp, Phase.causes] using (v.ends hq).2
    exact ⟨(v.pairing (by simp [hp]) (by simp [hp])).1.trans hff, .inr (.inr ⟨hq, hc ▸ hx⟩)⟩
  · exact absurd hp (not_idle_of_tick h)

theorem Cause.result_eq_ok {k : Cause} : k.result = .ok → k = .none := by
  cases k <;> decide

/-- Settles O31: the compare is one of numbers, and with 0xFF every run stays before the check or aborts. -/
theorem commandFFAcceptsNoResponse : Obligations.CommandFFAcceptsNoResponse := by
  refine ⟨echoOk_iff, fun s hb hff => ⟨_, exec_operation (c := 3) hb rfl, fun ht hok => ?_⟩⟩
  have h0 : Unanswered (startOperation 3 .rCheck s) := ⟨hff, .inl (by simp [Phase.beforeEcho])⟩
  have h1 : Underway 3 s (startOperation 3 .rCheck s) := ⟨rfl, .inl ⟨rfl, nofun, rfl, rfl⟩⟩
  obtain ⟨-, hp⟩ := resume_keeps (fun _ _ ht hu => tick_unanswered ht hu) h0
  obtain ⟨-, hend⟩ := resume_keeps (fun _ _ ht hu => tick_underway ht hu) h1
  obtain ⟨hb', -⟩ | ⟨-, hi, hr⟩ := hend
  · cases ht.symm.trans hb'
  · rw [hi] at hp
    obtain hp | ⟨hp, -⟩ | ⟨-, hc⟩ := hp
    · exact absurd hp (by decide)
    · cases hp
    · exact hc (Cause.result_eq_ok (hr ▸ hok))

end Sys2Proof.Machine
end

section
/-! PROOFS. How a run emits the command frame when the bus takes its bytes: one rule for an accepted write, and from it
the runs through the head, the header, the body and the tail of the frame. -/

namespace Sys2Proof.Machine

/-! ## One write -/

/-- What the engine and the bus hold after `bs` has been accepted, with the answers `as` left. -/
def State.sent (s : State) (bs : List Byte) (as : List Bool) : State :=
  { s with
    accepts := as
    txn := .writing
    staged := s.staged ++ bs
    trace := s.trace ++ writeEvents bs
    log := s.log ++ bs.map .emitted }

/-- The builder moves on in its own registers. -/
theorem sent_sameOperands (s : State) (bs : List Byte) (as : List Bool) (sum idx : Byte) (p : Phase) :
    SameOperands s { s.sent bs as with sum := sum, idx := idx, ph := p } :=
  ⟨rfl, rfl, rfl, rfl, rfl, rfl, rfl, rfl, rfl, rfl⟩

/-- A run emits the next byte as its phase says. -/
theorem resume_emit {b : Byte} {k : State → State} {s : State} {as : List Bool} (ht : tick s = emitByte b k s)
    (ha : s.accepts = true :: as) : resume s = resume (k (s.sent [b] as)) :=
  resume_of_tick (by rw [ht, emitByte, askWrite, ha]; rfl)

/-! ## The parts of the frame (R100) -/

/-- R100 steps 6 to 10: a byte of W_HEAD before the last. -/
theorem resume_headByte (i : Byte) {s : State} {as : List Bool} (hp : s.ph = .wHead) (hi : s.idx = i)
    (hlt : i.toNat < 5) (ha : s.accepts = true :: as) :
    resume s = resume { s.sent [headByte s] as with idx := i + 1 } := by
  have ht : tick s = wHead s := by simp only [tick, hp]
  refine (resume_emit ht ha).trans (congrArg resume ((if_pos ?_).trans ?_))
  · exact hi ▸ hlt
  · rw [← hi]
    rfl

/-- R100 steps 6 to 11. -/
theorem resume_wHead {s : State} {as : List Bool} (hp : s.ph = .wHead) (hi : s.idx = 0)
    (ha : s.accepts = List.replicate 6 true ++ as) : resume s =
      resume { s.sent [0x00, 0x00, 0xFF, s.lenr, lcsGen s.lenr, 0xD4] as with sum := 0xD4, idx := 0, ph := .wHdr } := by
  refine Eq.trans (resume_headByte 0 hp hi (by decide) ha) ?_
  refine Eq.trans (resume_headByte 1 hp rfl (by decide) rfl) ?_
  refine Eq.trans (resume_headByte 2 hp rfl (by decide) rfl) ?_
  refine Eq.trans (resume_headByte 3 hp rfl (by decide) rfl) ?_
  refine Eq.trans (resume_headByte 4 hp rfl (by decide) rfl) ?_
  refine Eq.trans (resume_emit (k := fun s =>
    if s.idx.toNat < 5 then { s with idx := s.idx + 1 } else { s with sum := 0xD4, idx := 0, ph := .wHdr })
    (by simp only [tick, State.sent, hp]; rfl) rfl) ?_
  simp [State.sent, writeEvents, headByte, hi]

/-- R100 steps 12 and 13: the loop that emits the bytes of one buffer, from index `IDX` on. -/
theorem resume_emitLoop {m : Memory} {p : Phase} {len : Nat} {k : Byte → State → State} {next : State → State}
    (hlen : len < 256) (n : Nat) {s : State} {as : List Bool} (hp : s.ph = p) (hn : s.idx.toNat + (n + 1) = len)
    (ha : s.accepts = List.replicate (n + 1) true ++ as)
    (ht : ∀ v, v.ph = p → SameOperands s v → tick v = emitByte (m.read v.idx.toNat) (k (m.read v.idx.toNat)) v)
    (hk : ∀ b v, SameOperands s v → k b v =
      if v.idx.toNat + 1 < len then { v with sum := sumAdd v.sum b, idx := v.idx + 1 }
      else next { v with sum := sumAdd v.sum b }) :
    ∃ i, resume s = resume (next { s.sent (m.readBytes s.idx.toNat (n + 1)) as with
      sum := sumBytes s.sum (m.readBytes s.idx.toNat (n + 1)), idx := i }) := by
  induction n generalizing s with
  | zero =>
    exact ⟨s.idx, (resume_emit (ht s hp (.same s)) ha).trans (congrArg resume
      ((hk _ _ (sent_sameOperands s _ _ s.sum s.idx s.ph)).trans (if_neg (show ¬s.idx.toNat + 1 < len by omega))))⟩
  | succ n ih =>
    have hidx : (s.idx + 1).toNat = s.idx.toNat + 1 := by bv_omega
    have hone := (resume_emit (ht s hp (.same s)) ha).trans (congrArg resume
      ((hk _ _ (sent_sameOperands s _ _ s.sum s.idx s.ph)).trans (if_pos (show s.idx.toNat + 1 < len by omega))))
    obtain ⟨i, hi⟩ := ih (s := { s.sent [m.read s.idx.toNat] (List.replicate (n + 1) true ++ as) with
      sum := sumAdd s.sum (m.read s.idx.toNat), idx := s.idx + 1 }) hp (by simp only [hidx]; omega) rfl
      (fun v hv o => ht v hv (o.after (sent_sameOperands s _ _ _ _ _)))
      (fun b v o => hk b v (o.after (sent_sameOperands s _ _ _ _ _)))
    refine ⟨i, hone.trans (hi.trans ?_)⟩
    have hbytes : m.readBytes s.idx.toNat (n + 1 + 1) =
        m.read s.idx.toNat :: m.readBytes (s.idx + 1).toNat (n + 1) := by
      rw [hidx]
      rfl
    rw [hbytes]
    simp [State.sent, writeEvents, sumBytes]

/-- R100 step 12. -/
theorem resume_wHdr {s : State} {as : List Bool} (hp : s.ph = .wHdr) (hi : s.idx = 0) (hne : s.hlen ≠ 0)
    (ha : s.accepts = List.replicate s.hlen.toNat true ++ as) : resume s = resume {
      s.sent (s.hdr.readBytes 0 s.hlen.toNat) as with
      sum := sumBytes s.sum (s.hdr.readBytes 0 s.hlen.toNat), idx := 0,
      ph := if s.blen = 0 then .wDcs else .wBody } := by
  obtain ⟨n, hn⟩ := Nat.exists_eq_succ_of_ne_zero fun h0 => hne (BitVec.eq_of_toNat_eq h0)
  rw [hn] at ha
  obtain ⟨i, hrun⟩ := resume_emitLoop (m := s.hdr) (next := fun u =>
    { u with idx := 0, ph := if s.blen = 0 then .wDcs else .wBody })
    (k := fun b u =>
      let u := { u with sum := sumAdd u.sum b }
      if u.idx.toNat + 1 < u.hlen.toNat then { u with idx := u.idx + 1 }
      else { u with idx := 0, ph := if u.blen = 0 then .wDcs else .wBody })
    s.hlen.isLt n hp (by rw [hi, hn]; exact Nat.zero_add _) ha
    (fun v hv o => by simp only [tick, hv, wHdr, readHdr, o.hdr]) fun b v o => by simp only [o.hlen, o.blen]
  rw [hrun, hi, hn]
  rfl

/-- R100 step 13, skipped when there is no body byte (R34). -/
theorem resume_wBody {s : State} {as : List Bool} (hp : s.ph = if s.blen = 0 then .wDcs else .wBody) (hi : s.idx = 0)
    (htx : s.txn = .writing) (ha : s.accepts = List.replicate s.blen.toNat true ++ as) : ∃ i, resume s = resume {
      s.sent (s.body.readBytes 0 s.blen.toNat) as with
      sum := sumBytes s.sum (s.body.readBytes 0 s.blen.toNat), idx := i, ph := .wDcs } := by
  by_cases hz : s.blen = 0
  · rw [if_pos hz] at hp
    rw [hz] at ha ⊢
    obtain rfl : s.accepts = as := ha
    refine ⟨s.idx, congrArg resume ?_⟩
    simp [State.sent, writeEvents, Memory.readBytes, sumBytes, ← hp, ← htx]
  · rw [if_neg hz] at hp
    obtain ⟨n, hn⟩ := Nat.exists_eq_succ_of_ne_zero fun h0 => hz (BitVec.eq_of_toNat_eq h0)
    rw [hn] at ha
    obtain ⟨i, hrun⟩ := resume_emitLoop (m := s.body) (next := fun u => { u with ph := .wDcs })
      (k := fun b u =>
        let u := { u with sum := sumAdd u.sum b }
        if u.idx.toNat + 1 < u.blen.toNat then { u with idx := u.idx + 1 } else { u with ph := .wDcs })
      s.blen.isLt n hp (by rw [hi, hn]; exact Nat.zero_add _) ha
      (fun v hv o => by simp only [tick, hv, wBody, readBody, o.body]) fun b v o => by simp only [o.blen]
    exact ⟨i, by rw [hrun, hi, hn]; rfl⟩

/-- R100 steps 14 to 16: the tail, and the `BusEnd` that commits the frame. -/
theorem resume_wDcs {s : State} {as : List Bool} (hp : s.ph = .wDcs) (ha : s.accepts = true :: true :: as) :
    resume s = resume
      { busEnd (s.sent [dcsGen s.sum, s.cfg.postamble] as) with ph := .aWait, sub := .latch } := by
  have hd : tick s = wDcs s := by simp only [tick, hp]
  refine (resume_emit hd ha).trans (Eq.trans (resume_emit (b := s.cfg.postamble)
    (k := fun s => { s with ph := .wCommit }) rfl rfl) ((resume_of_tick rfl).trans (congrArg resume ?_)))
  simp [wCommit, busEnd, State.sent, writeEvents]

/-- R100 steps 6 to 16: the whole frame. -/
theorem resume_commandFrame {s : State} {as : List Bool} (hp : s.ph = .wHead) (hi : s.idx = 0) (hne : s.hlen ≠ 0)
    (hl : s.lenr.toNat = frameLen s.hlen s.blen)
    (ha : s.accepts = List.replicate (commandFrame s).length true ++ as) : ∃ sum i, resume s = resume {
      busEnd (s.sent (commandFrame s) as) with sum := sum, idx := i, ph := .aWait, sub := .latch } := by
  have hsplit : List.replicate (commandFrame s).length true ++ as = List.replicate 6 true ++
      (List.replicate s.hlen.toNat true ++ (List.replicate s.blen.toNat true ++ (true :: true :: as))) := by
    rw [commandFrame_length, show 8 + s.hlen.toNat + s.blen.toNat = 6 + (s.hlen.toNat + (s.blen.toNat + 2)) by omega]
    simp [List.replicate_add]
  obtain ⟨i, hbody⟩ := resume_wBody (s := {
    s.sent ([0x00, 0x00, 0xFF, s.lenr, lcsGen s.lenr, 0xD4] ++ s.hdr.readBytes 0 s.hlen.toNat)
      (List.replicate s.blen.toNat true ++ (true :: true :: as)) with
    sum := sumBytes 0xD4 (s.hdr.readBytes 0 s.hlen.toNat), idx := 0, ph := if s.blen = 0 then .wDcs else .wBody })
    rfl rfl rfl rfl
  refine ⟨sumBytes 0xD4 (commandData s), i, ?_⟩
  calc resume s
    _ = _ := resume_wHead hp hi (ha.trans hsplit)
    _ = _ := resume_wHdr rfl rfl hne rfl
    _ = _ := by simpa [State.sent, writeEvents] using hbody
    _ = _ := resume_wDcs rfl rfl
    _ = _ := by
      rw [commandFrame_eq hl]
      simp [State.sent, writeEvents, commandData, sumBytes_append, busEnd]

theorem aWait_rests {s : State} (hp : s.ph = .aWait) (hs : s.sub = .latch) (hn : s.nows = []) : tick s = none := by
  simp [tick, hp, aWait, waitVisit_eq_none, hs, hn]

/-! ## The checks of a sound frame (R61, R62) -/

theorem sumBytes_eq_add_byteSum (seed : Byte) (bs : List Byte) : sumBytes seed bs = seed + byteSum bs := by
  induction bs generalizing seed with
  | nil => simp [sumBytes, byteSum]
  | cons b bs ih => rw [byteSum, ← BitVec.add_assoc, ← ih]; rfl

/-- R83: the `DCS` makes the sum 0. -/
theorem byteSum_append_dcsGen (tfi : Byte) (data : List Byte) :
    byteSum (tfi :: (data ++ [dcsGen (sumBytes tfi data)])) = 0 := by
  have h : byteSum (tfi :: (data ++ [dcsGen (sumBytes tfi data)])) =
      sumBytes tfi data + dcsGen (sumBytes tfi data) := by
    rw [byteSum, ← sumBytes_eq_add_byteSum, sumBytes_append]
    rfl
  rw [h]
  simp [dcsGen]

/-- The bytes of the command frame behind its `TFI`. -/
def commandRest (s : State) : List Byte := commandData s ++ [dcsGen (sumBytes 0xD4 (commandData s)), s.cfg.postamble]

theorem wireBytes_commandRest {s : State} (h : s.lenr.toNat = frameLen s.hlen s.blen) :
    wireBytes (.cmdFrame s.lenr (lcsGen s.lenr) (commandRest s)) = commandFrame s := (commandFrame_eq h).symm

theorem commandRest_sound {s : State} (hne : s.hlen ≠ 0) (hmax : tooLong s.cfg s.hlen s.blen = false)
    (h : s.lenr.toNat = frameLen s.hlen s.blen) :
    Instr.sound s.cfg.maxlen s.cfg.postamble (.cmdFrame s.lenr (lcsGen s.lenr) (commandRest s)) = true := by
  have hpos : s.hlen.toNat ≠ 0 := fun h0 => hne (BitVec.eq_of_toNat_eq h0)
  have hle : frameLen s.hlen s.blen ≤ s.cfg.maxlen.toNat := by simpa [tooLong] using hmax
  have hlen : s.lenr.toNat = (commandData s).length + 1 := by rw [h, commandData_length, frameLen]
  have hwf : (commandRest s).length = s.lenr.toNat + 1 := by simp [commandRest, hlen]
  have htake : (commandRest s).take s.lenr.toNat = commandData s ++ [dcsGen (sumBytes 0xD4 (commandData s))] := by
    rw [hlen, commandRest]
    simp [List.take_append]
  have hlast : (commandRest s).getLast? = some s.cfg.postamble := by simp [commandRest]
  have h2 : 2 ≤ s.lenr.toNat := by rw [h, frameLen]; omega
  simp only [Instr.sound, Instr.wf, hwf, htake, byteSum_append_dcsGen, hlast]
  simp [lcsGen, h2, h ▸ hle]

/-- Settles O36: the bus takes the frame byte by byte, and the wait for the ACK asks for a sample that has not come. -/
theorem cmdFrameCompletes : Obligations.CmdFrameCompletes := by
  intro s hp hi hne hmax hl ha hst hn
  refine ⟨commandRest s, wireBytes_commandRest hl, commandRest_sound hne hmax hl, ?_⟩
  have hemit : aboutToEmit (commandFrame s) s = true := by simp [aboutToEmit, hp, hi, ha]
  have he : exec (.cmdFrame s.lenr (lcsGen s.lenr) (commandRest s)) s =
      .next (resume (acceptAll (commandFrame s) s)) := by
    simp only [exec, execCmdFrame, wireBytes_commandRest hl, hemit, if_true]
  obtain ⟨sum, i, hrun⟩ := resume_commandFrame (s := acceptAll (commandFrame s) s) (as := []) hp hi hne hl
    (List.append_nil _).symm
  replace hrun := hrun.trans (resume_of_rest (aWait_rests rfl rfl hn))
  refine ⟨_, he.trans (congrArg Host.Outcome.next hrun), rfl, rfl, ?_, rfl, rfl, rfl, rfl⟩
  simp [State.sent, acceptAll, hst]
  rfl

end Sys2Proof.Machine
end

section
/-! PROOFS. The lines of R77: the writes of a line, one step each, up to the write of the operation code. -/

namespace Sys2Proof.Machine

/-! ## Steps in a row -/

theorem run_one (M : Host.Core) (s : M.State) : M.run 1 s = M.step s := by
  simp only [Host.Core.run]
  cases M.step s <;> rfl

theorem run_succ {s t : State} (h : step s = .next t) (k : Nat) : core.run (k + 1) s = core.run k t := by
  have hc : core.step s = .next t := h
  simp only [Host.Core.run, hc]

/-- The last write of a line is that of the operation code. -/
theorem run_one_opr {s : State} {v : Nat} {rest : List Input} (h : s.inputs = .writeReg .opr v :: rest) :
    core.run 1 s = exec (decodeOpCode (BitVec.ofNat 3 v)) { s with inputs := rest } :=
  (run_one core s).trans (stepRunsFetchedInstruction.1 s v rest h)

section
variable {s : State} {v : Nat} {rest : List Input} (hb : s.busy = false)
include hb

theorem step_put_idle {b : Buffer} {bs : List Byte} (hl : bs.length ≤ 255) (h : s.inputs = .put b bs :: rest) :
    step s = .next (putBuffer b bs { s with inputs := rest }) :=
  (step_put h).trans (bufferAccess_within hb (hl.trans (by decide)))

theorem step_writeHlen (h : s.inputs = .writeReg .hlen v :: rest) :
    step s = .next { s with inputs := rest, hlen := BitVec.ofNat 8 v } :=
  (hostRegisterTable.2.1 s v rest hb).1 h

theorem step_writeBlen (h : s.inputs = .writeReg .blen v :: rest) :
    step s = .next { s with inputs := rest, blen := BitVec.ofNat 8 v } :=
  (hostRegisterTable.2.1 s v rest hb).2.1 h

theorem step_writeMaxl (h : s.inputs = .writeReg .maxl v :: rest) :
    step s = .next { s with inputs := rest, maxl := BitVec.ofNat 8 v } :=
  (hostRegisterTable.2.1 s v rest hb).2.2.1 h

theorem step_writeTmo (h : s.inputs = .writeReg .tmo v :: rest) :
    step s = .next { s with inputs := rest, tmo := v % 2 ^ s.cfg.clkw } :=
  (hostRegisterTable.2.1 s v rest hb).2.2.2.1 h

end

/-! ## The WRITE_COMMAND line -/

/-- The state in which a WRITE_COMMAND line writes `OPR`: its bytes are placed, and its lengths are in the latches. -/
def State.withCommand (s : State) (hdr body : List Byte) : State :=
  { s with
    inputs := []
    hdr := s.hdr.writeBytes 0 hdr
    body := s.body.writeBytes 0 body
    hlen := BitVec.ofNat 8 hdr.length
    blen := BitVec.ofNat 8 body.length }

theorem toNat_ofNat_length {bs : List Byte} (h : bs.length ≤ 255) :
    (BitVec.ofNat 8 bs.length).toNat = bs.length := by
  rw [BitVec.toNat_ofNat]
  omega

/-- R40, R41: what was placed is the DATA of the frame. -/
theorem commandData_withCommand (s : State) {hdr body : List Byte} (hh : hdr.length ≤ 255) (hl : body.length ≤ 255) :
    commandData (s.withCommand hdr body) = hdr ++ body := by
  simp only [commandData, State.withCommand, toNat_ofNat_length hh, toNat_ofNat_length hl,
    Memory.readBytes_writeBytes_same]

theorem run_writeCommandLine {s : State} {hdr body : List Byte} (hb : s.busy = false) (hh : hdr.length ≤ 255)
    (hl : body.length ≤ 255) :
    core.run 5 { s with inputs := Line.inputs s.cfg (.writeCommand hdr body) } =
      exec .writeCommand (s.withCommand hdr body) := by
  refine Eq.trans (run_succ (step_put_idle (by exact hb) hh rfl) 4) ?_
  refine Eq.trans (run_succ (step_put_idle (by exact hb) hl rfl) 3) ?_
  refine Eq.trans (run_succ (step_writeHlen (by exact hb) rfl) 2) ?_
  refine Eq.trans (run_succ (step_writeBlen (by exact hb) rfl) 1) ?_
  exact run_one_opr (v := 2) rfl

/-- Settles O59: each write of a line but the last sets its latch or its buffer, and the last one starts the
operation. -/
theorem notationStandsForItsWrites : Obligations.NotationStandsForItsWrites := by
  intro s hb _
  refine ⟨run_one_opr (v := 0) rfl, run_one_opr (v := 1) rfl, fun hdr body hh hl => ?_, fun max tmo => ?_,
    fun tmo => ?_⟩
  · refine ⟨_, run_writeCommandLine hb hh hl, commandData_withCommand s hh hl, toNat_ofNat_length hh,
      toNat_ofNat_length hl, fun i => ?_, fun i => ?_, rfl⟩ <;>
    simp [State.withCommand, Memory.read_writeBytes]
  · refine Eq.trans (run_succ (step_writeMaxl (by exact hb) rfl) 2) ?_
    refine Eq.trans (run_succ (step_writeTmo (by exact hb) rfl) 1) ?_
    exact run_one_opr (v := 3) rfl
  · refine Eq.trans (run_succ (step_writeTmo (by exact hb) rfl) 1) ?_
    exact run_one_opr (v := 4) rfl

end Sys2Proof.Machine
end

section
/-! PROOFS. Checksum arithmetic (40_checksum.md): both checks ask for a sum of 0 modulo 256, and the running sum is the
sum of the bytes modulo 256. -/

namespace Sys2Proof.Machine

/-! ## One checksum (R80, R81, R83, R84) -/

/-- R81, R84: the length check and the data check ask the same of their two bytes. -/
theorem lcsOk_eq_dcsOk (len lcs : Byte) : lcsOk len lcs = dcsOk len lcs := rfl

/-- R80, R83: both generators negate. -/
theorem lcsGen_eq_dcsGen (len : Byte) : lcsGen len = dcsGen len := rfl

theorem dcsGen_toNat (sum : Byte) : (dcsGen sum).toNat = (256 - sum.toNat) % 256 := by
  simp [dcsGen]

theorem dcsOk_iff (sum dcs : Byte) : dcsOk sum dcs = true ↔ sum + dcs = 0 := by
  simp [dcsOk]

theorem dcsOk_iff_toNat (sum dcs : Byte) : dcsOk sum dcs = true ↔ (sum.toNat + dcs.toNat) % 256 = 0 := by
  rw [dcsOk_iff, ← BitVec.toNat_inj]
  simp

theorem toNat_add_dcsGen (sum : Byte) : (sum.toNat + (dcsGen sum).toNat) % 256 = 0 :=
  (dcsOk_iff_toNat sum _).1 (dcsOk_dcsGen sum)

theorem dcsOk_iff_eq_dcsGen (sum dcs : Byte) : dcsOk sum dcs = true ↔ dcs = dcsGen sum := by
  rw [dcsOk_iff, dcsGen, zero_sub, add_comm, add_eq_zero_iff_eq_neg]

theorem dcsOk_of_ne_dcs {sum dcs dcs' : Byte} (hne : dcs' ≠ dcs) (h : dcsOk sum dcs = true) :
    dcsOk sum dcs' = false := by
  rw [Bool.eq_false_iff, ne_eq, dcsOk_iff_eq_dcsGen, ← (dcsOk_iff_eq_dcsGen sum dcs).1 h]
  exact hne

theorem dcsOk_of_ne_sum {sum sum' dcs : Byte} (hne : sum' ≠ sum) (h : dcsOk sum dcs = true) :
    dcsOk sum' dcs = false := by
  rw [Bool.eq_false_iff, ne_eq, dcsOk_iff, ← (dcsOk_iff sum dcs).1 h, add_left_inj]
  exact hne

/-- A flipped bit leaves another byte. -/
theorem xor_bit_ne (b : Byte) {k : Nat} (hk : k < 8) : b ^^^ (1#8 <<< k) ≠ b := by
  intro h
  have hbit : (b ^^^ (1#8 <<< k)).getLsbD k = b.getLsbD k := by rw [h]
  simp [hk] at hbit

/-- R80: negation as one more than the complement. -/
theorem dcsGen_eq_xor_add_one (sum : Byte) : dcsGen sum = (sum ^^^ 0xFF) + 1 := by
  rw [dcsGen, zero_sub, BitVec.neg_eq_not_add, ← BitVec.xor_allOnes]
  rfl

/-- Settles O5: the length checksum is the data checksum of the one byte `LEN`. -/
theorem lengthChecksum : Obligations.LengthChecksum := by
  refine ⟨fun len lcs => ?_, by decide⟩
  rw [lcsGen_eq_dcsGen, lcsOk_eq_dcsOk]
  exact ⟨dcsGen_toNat len, dcsGen_eq_xor_add_one len, toNat_add_dcsGen len, dcsOk_iff_toNat len lcs,
    dcsOk_iff_eq_dcsGen len lcs⟩

/-! ## The running sum (R82) -/

theorem sumBytes_toNat (seed : Byte) (bs : List Byte) :
    (sumBytes seed bs).toNat = (seed.toNat + (bs.map BitVec.toNat).sum) % 256 := by
  induction bs generalizing seed with
  | nil => simpa [sumBytes] using (Nat.mod_eq_of_lt seed.isLt).symm
  | cons b bs ih =>
    calc (sumBytes seed (b :: bs)).toNat
      _ = (sumBytes (sumAdd seed b) bs).toNat := rfl
      _ = ((seed.toNat + b.toNat) % 256 + (bs.map BitVec.toNat).sum) % 256 := by rw [ih, sumAdd, BitVec.toNat_add]
      _ = _ := by rw [List.map_cons, List.sum_cons]; omega

theorem sumBytes_perm (seed : Byte) {bs cs : List Byte} (h : bs.Perm cs) : sumBytes seed bs = sumBytes seed cs := by
  apply BitVec.eq_of_toNat_eq
  rw [sumBytes_toNat, sumBytes_toNat, (h.map BitVec.toNat).sum_eq]

theorem sumBytes_cancel (seed a b d : Byte) (bs : List Byte) :
    sumBytes seed ((a + d) :: (b - d) :: bs) = sumBytes seed (a :: b :: bs) := by
  simp only [sumBytes_eq_add_byteSum, byteSum]
  ring

theorem sumBytes_middle_inj (seed b b' : Byte) (before after : List Byte) :
    sumBytes seed (before ++ b :: after) = sumBytes seed (before ++ b' :: after) ↔ b = b' := by
  rw [sumBytes_append, sumBytes_append]
  simp only [sumBytes_eq_add_byteSum, byteSum, add_right_inj, add_left_inj]

/-- Settles O6: the sum of the values, modulo 256, does not see the order. -/
theorem runningSumIgnoresOrder : Obligations.RunningSumIgnoresOrder := fun seed bs _ =>
  ⟨sumBytes_toNat seed bs, sumBytes_perm seed, fun a b d => sumBytes_cancel seed a b d bs⟩

/-- Settles O7: one `DCS` passes for a sum, one sum for a `DCS`, and another byte in one place is another sum. -/
theorem dataChecksum : Obligations.DataChecksum := by
  refine ⟨fun sum dcs => ⟨dcsGen_toNat sum, dcsOk_iff_toNat sum dcs, dcsOk_iff_eq_dcsGen sum dcs⟩,
    fun sum dcs k hk => dcsOk_of_ne_dcs (xor_bit_ne dcs hk), fun seed dcs b b' before after hne => ?_,
    fun seed dcs a b d bs => by rw [sumBytes_cancel], by decide⟩
  exact dcsOk_of_ne_sum fun h => hne ((sumBytes_middle_inj seed b' b before after).1 h).symm

/-! ## The clock (R85) -/

/-- Settles O8: the start cancels modulo `2^CLKW`, and the difference is below it. -/
theorem elapsedIsExactAcrossOneWrap : Obligations.ElapsedIsExactAcrossOneWrap := by
  intro p t0 d hd
  simp only [elapsed, clockValue]
  generalize 2 ^ p.clkw = m at hd
  have hlt : t0 % m < m := Nat.mod_lt _ (by omega)
  calc ((t0 + d) % m + (m - t0 % m % m)) % m
    _ = (t0 % m + d + (m - t0 % m)) % m := by
      rw [Nat.mod_mod, Nat.mod_add_mod, add_assoc, add_assoc, Nat.mod_add_mod]
    _ = (d + m) % m := by congr 1; omega
    _ = d := by rw [Nat.add_mod_right, Nat.mod_eq_of_lt hd]

/-! ## The command frame (R86) -/

/-- The length of an admitted frame does not wrap (R85, R103). -/
theorem frameLen_toNat {p : Params} {hlen blen : Byte} (h : tooLong p hlen blen = false) :
    (BitVec.ofNat 8 (frameLen hlen blen)).toNat = frameLen hlen blen := by
  have hmax : frameLen hlen blen ≤ p.maxlen.toNat := by simpa [tooLong] using h
  rw [BitVec.toNat_ofNat, Nat.mod_eq_of_lt (by omega)]

/-- Settles O14: each checksum of the frame is the negation of what it closes, and `LEN` does not wrap. -/
theorem commandFrameInvariants : Obligations.CommandFrameInvariants := by
  intro s _ hmax
  refine ⟨BitVec.ofNat 8 (frameLen s.hlen s.blen), lcsGen _, dcsGen (sumBytes 0xD4 (commandData s)), ?_,
    frameLen_toNat hmax, ?_, toNat_add_dcsGen _, ?_⟩
  · simp [commandFrame, generalFrame, commandData_length, frameLen]
  · rw [commandFrame_length]
    omega
  · have hsum := toNat_add_dcsGen (sumBytes 0xD4 (commandData s))
    rwa [sumBytes_toNat, Nat.mod_add_mod] at hsum

end Sys2Proof.Machine
end

section
/-! PROOFS. How a run takes the clock samples of a delay, and from it the runs of BEGIN and WAKE to their ends. -/

namespace Sys2Proof.Machine

/-! ## One clock sample -/

/-- What the engine holds after it has taken the clock samples `xs`, with `rest` still to come. -/
def State.sampled (s : State) (xs rest : List Nat) : State :=
  { s with nows := rest, trace := s.trace ++ nowEvents s.cfg xs }

/-- A run takes the next clock sample as its phase says. -/
theorem resume_now {k : Nat → State → State} {s : State} {x : Nat} {rest : List Nat} (ht : tick s = askNow k s)
    (hn : s.nows = x :: rest) : resume s = resume (k (clockValue s.cfg x) (s.sampled [x] rest)) :=
  resume_of_tick (by rw [ht, askNow, hn]; rfl)

/-! ## A delay (R92) -/

section
variable {d : Nat} {done : State → State} {rest : List Nat}

/-- A sample behind the first one ends the delay, or it goes on. -/
theorem resume_delaySample {s : State} {x : Nat}
    (ht : tick { s with sub := .clock } = delayVisit d done { s with sub := .clock }) (hn : s.nows = x :: rest) :
    resume { s with sub := .clock } = resume (
      if s.tmor ≤ elapsed s.cfg (clockValue s.cfg x) s.t0 then done { s.sampled [x] rest with sub := .clock }
      else { s.sampled [x] rest with sub := .clock }) := by
  have hask : tick { s with sub := .clock } =
      askNow (fun v s => if timedOut s v then done s else { s with sub := .clock }) { s with sub := .clock } := ht
  refine (resume_now hask hn).trans (congrArg resume ?_)
  simp only [timedOut, decide_eq_true_eq]
  rfl

/-- The loop of `Delay`: the samples before its time are `early`, and `x` is the first one that is not. -/
theorem resume_delayLoop (early : List Nat) {s : State} {x : Nat}
    (ht : ∀ u, u.ph = s.ph → u.cfg = s.cfg → u.sub ≠ .entry → tick u = delayVisit d done u)
    (hn : s.nows = early ++ x :: rest)
    (he : ∀ y ∈ early, elapsed s.cfg (clockValue s.cfg y) s.t0 < s.tmor)
    (hx : s.tmor ≤ elapsed s.cfg (clockValue s.cfg x) s.t0) :
    resume { s with sub := .clock } = resume (done { s.sampled (early ++ [x]) rest with sub := .clock }) := by
  have hvisit : tick { s with sub := .clock } = delayVisit d done { s with sub := .clock } :=
    ht { s with sub := .clock } rfl rfl (by simp)
  induction early generalizing s with
  | nil => exact (resume_delaySample hvisit hn).trans (congrArg resume (if_pos hx))
  | cons y ys ih =>
    have hy : elapsed s.cfg (clockValue s.cfg y) s.t0 < s.tmor := he y (by simp)
    have hone := (resume_delaySample hvisit hn).trans (congrArg resume (if_neg (Nat.not_le.2 hy)))
    have hrest := ih (s := s.sampled [y] (ys ++ x :: rest)) ht rfl (fun z hz => he z (by simp [hz])) hx
      (ht _ rfl rfl (by simp))
    refine hone.trans (hrest.trans ?_)
    simp [State.sampled, nowEvents]

/-- `Delay(d)`: the first sample is latched, and the last one ends the delay. -/
theorem resume_delay {s : State} {samples : List Nat}
    (ht : ∀ u, u.ph = s.ph → u.cfg = s.cfg → u.sub ≠ .entry → tick u = delayVisit d done u) (hs : s.sub = .latch)
    (hn : s.nows = samples ++ rest) (hd : DelayTakes s.cfg d samples) :
    ∃ t0, resume s = resume (done { s.sampled samples rest with t0 := t0, tmor := d, sub := .clock }) := by
  obtain ⟨x, early, y, rfl, he, hy⟩ := hd
  have hlatch : tick s = askNow (fun v s => { s with t0 := v, tmor := d, sub := .clock }) s := by
    rw [ht s rfl rfl (by simp [hs]), delayVisit, hs]
  have hfirst : s.nows = x :: (early ++ y :: rest) := by simpa using hn
  have hloop := resume_delayLoop early
    (s := { s.sampled [x] (early ++ y :: rest) with t0 := clockValue s.cfg x, tmor := d }) ht rfl he hy
  refine ⟨clockValue s.cfg x, (resume_now hlatch hfirst).trans (hloop.trans ?_)⟩
  simp [State.sampled, nowEvents]

end

/-! ## BEGIN (R90) -/

/-- R90 steps 1 to 3: both visits of B_INIT take no answer. -/
theorem resume_bInit {s : State} (hp : s.ph = .bInit) (hs : s.sub = .latch) : resume s = resume (bInit (bInit s)) := by
  have h1 : tick s = some (bInit s) := by simp only [tick, hp]
  have h2 : tick (bInit s) = some (bInit (bInit s)) := by
    have hp' : (bInit s).ph = .bInit := by simpa [bInit, hs] using hp
    simp only [tick, hp']
  exact (resume_of_tick h1).trans (resume_of_tick h2)

/-- R90 steps 4 and 5: the reset line is held low for the delay, then released. -/
theorem resume_bLow {s : State} {low rest : List Nat} (hp : s.ph = .bLow) (hs : s.sub = .latch)
    (hn : s.nows = low ++ rest) (hd : DelayTakes s.cfg s.cfg.tRstLow low) :
    ∃ t0, resume s = resume { rstLine true (s.sampled low rest) with
      t0 := t0, tmor := s.cfg.tRstLow, ph := .bSettle, sub := .latch } := by
  obtain ⟨t0, hrun⟩ := resume_delay (done := fun s => { s with ph := .bSettle, sub := .entry })
    (fun u hu hc _ => by simp only [tick, hu.trans hp, bLow, hc]) hs hn hd
  exact ⟨t0, hrun.trans (resume_of_tick rfl)⟩

/-- R90 steps 6 and 7. -/
theorem resume_bSettle {s : State} {settle rest : List Nat} (hp : s.ph = .bSettle) (hs : s.sub = .latch)
    (hn : s.nows = settle ++ rest) (hd : DelayTakes s.cfg s.cfg.tRstSettle settle) :
    resume s = complete (s.sampled settle rest) := by
  have ht (u : State) (hu : u.ph = s.ph) (hc : u.cfg = s.cfg) (hne : u.sub ≠ .entry) :
      tick u = delayVisit s.cfg.tRstSettle complete u := by
    simp only [tick, hu.trans hp, bSettle, hc]
    split
    · next he => exact absurd he hne
    all_goals rfl
  obtain ⟨t0, hrun⟩ := resume_delay ht hs hn hd
  exact hrun.trans (resume_of_rest (tick_idle rfl))

/-- Settles O9: B_INIT takes no answer, and each delay takes its samples. -/
theorem beginCompletes : Obligations.BeginCompletes := by
  intro s low settle rest hb hn hlow hsettle
  obtain ⟨t0, hrun⟩ := resume_bLow (s := bInit (bInit (startOperation 0 .bInit s))) rfl rfl
    (hn.trans (List.append_assoc low settle rest)) hlow
  have hall : exec .begin s = .next (complete _) := (exec_operation (c := 0) hb rfl).trans (congrArg Host.Outcome.next
    ((resume_bInit rfl rfl).trans (hrun.trans (resume_bSettle rfl rfl rfl hsettle))))
  refine ⟨_, hall, ⟨rfl, rfl, rfl, rfl⟩, rfl, rfl, rfl, rfl, rfl, rfl, ?_⟩
  simp [State.sampled, bInit, startOperation]

/-! ## WAKE (R91) -/

/-- R91 steps 2 to 4. -/
theorem resume_kHold {s : State} {hold rest : List Nat} (hp : s.ph = .kHold) (hs : s.sub = .latch)
    (hn : s.nows = hold ++ rest) (hd : DelayTakes s.cfg s.cfg.tWakeHold hold) :
    resume s = complete (busEnd (s.sampled hold rest)) := by
  obtain ⟨t0, hrun⟩ := resume_delay (done := fun s => { s with ph := .kClose, sub := .latch })
    (fun u hu hc _ => by simp only [tick, hu.trans hp, kHold, hc]) hs hn hd
  exact hrun.trans (resume_of_ended (t := complete (busEnd (s.sampled hold rest))) rfl rfl)

/-- R91 step 1: the transaction is opened. -/
theorem resume_kOpen {s : State} {hold rest : List Nat} (hp : s.ph = .kOpen) (hn : s.nows = hold ++ rest)
    (hd : DelayTakes s.cfg s.cfg.tWakeHold hold) :
    resume s = complete (busEnd ((kOpen s).sampled hold rest)) := by
  have hopen : tick s = some (kOpen s) := by simp only [tick, hp]
  exact (resume_of_tick hopen).trans (resume_kHold rfl rfl hn hd)

/-- Settles O11: the delay takes its samples, and a transaction that carries no writes commits nothing. -/
theorem wakeCompletes : Obligations.WakeCompletes := by
  intro s hold rest hb hn hd
  have hrun := resume_kOpen (s := startOperation 1 .kOpen s) rfl hn hd
  refine ⟨_, (exec_operation (c := 1) hb rfl).trans (congrArg Host.Outcome.next hrun), ⟨rfl, rfl, rfl, rfl⟩, ?_⟩
  simp [State.sampled, kOpen, startOperation]

end Sys2Proof.Machine
end

section
/-! PROOFS. What BEGIN, WAKE and WAIT_READY leave unchanged, whatever the answers: they move no byte on the bus. -/

namespace Sys2Proof.Machine

/-! ## The bus -/

/-- Operation `c`, started in `s`, has got as far as `u` without a byte on the bus: what went out, the answers about
bytes, and the log are as before; only WAKE (1) uses a transaction, which stays empty, and only WAIT_READY (4) samples
the readiness signal. -/
structure MovesNoByte (c : OpCode) (s u : State) : Prop where
  within : u.ph = .idle ∨ u.ph.operation = some c
  empty : u.ph = .kHold ∨ u.ph = .kClose → u.txn = .opened
  txn : c ≠ 1 → u.txn = s.txn ∧ u.staged = s.staged
  readies : c ≠ 4 → u.readies = s.readies
  committed : u.committed = s.committed
  accepts : u.accepts = s.accepts
  reads : u.reads = s.reads
  log : u.log = s.log

theorem tick_movesNoByte {c : OpCode} {s u t : State} (hc : c = 0 ∨ c = 1 ∨ c = 4) (h : tick u = some t)
    (hu : MovesNoByte c s u) : MovesNoByte c s t := by
  have hop : u.ph.operation = some c := hu.within.resolve_left (not_idle_of_tick h)
  obtain ⟨-, hempty, htxn, hreadies, hcommitted, haccepts, hreads, hlog⟩ := hu
  obtain rfl | rfl | rfl := hc <;>
    cases hp : u.ph <;> simp [hp, Phase.operation] at hop <;> simp only [tick, hp, Option.some.injEq] at h
  case bInit =>
    subst h
    unfold bInit
    split <;> constructor <;> simp_all [Phase.operation]
  case kOpen | kClose =>
    subst h
    simp only [kOpen, kClose]
    constructor <;> simp_all [Phase.operation]
  case bSettle =>
    unfold bSettle at h
    split at h
    case h_1 => cases h; constructor <;> simp_all [Phase.operation]
    all_goals
      obtain ⟨x, xs, -, -, rfl⟩ | ⟨x, xs, -, -, rfl⟩ := delayVisit_cases h
      all_goals repeat' split
      all_goals constructor <;> simp_all [Phase.operation]
  case bLow | kHold =>
    obtain ⟨x, xs, -, -, rfl⟩ | ⟨x, xs, -, -, rfl⟩ := delayVisit_cases h
    all_goals repeat' split
    all_goals constructor <;> simp_all [Phase.operation]
  case gWait =>
    obtain ⟨x, xs, -, -, rfl⟩ | ⟨r, rs, -, -, rfl⟩ | ⟨x, xs, -, -, rfl⟩ := waitVisit_cases h
    all_goals repeat' split
    all_goals constructor <;> simp_all [Phase.operation]

theorem operation_movesNoByte {c : OpCode} {ph : Phase} (hc : c = 0 ∨ c = 1 ∨ c = 4) (hp : firstPhase c = some ph)
    (s : State) : MovesNoByte c s (resume (startOperation c ph s)) := by
  have hph : ¬(ph = .kHold ∨ ph = .kClose) := by
    unfold firstPhase at hp
    split at hp <;> cases hp <;> decide
  exact resume_keeps (fun _ _ ht hu => tick_movesNoByte hc ht hu)
    ⟨.inr (firstPhase_operation hp), fun h => absurd h hph, fun _ => ⟨rfl, rfl⟩, fun _ => rfl, rfl, rfl, rfl, rfl⟩

/-! ## What every operation leaves unchanged -/

section
variable {c : OpCode} {ph : Phase} (hp : firstPhase c = some ph) (s : State)

include hp

/-- R23, R35, R40, R41: the operands are the host's, and the result is written at the end. -/
theorem operation_frame :
    KeepsLatches s (resume (startOperation c ph s)) ∧ KeepsCommandBuffers s (resume (startOperation c ph s)) ∧
      ResultAtEnd s (resume (startOperation c ph s)) ∧ (resume (startOperation c ph s)).inputs = s.inputs ∧
      (resume (startOperation c ph s)).rdata = s.rdata := by
  have ho : SameOperands (startOperation c ph s) (resume (startOperation c ph s)) := resume_sameOperands _
  have h0 : Underway c s (startOperation c ph s) := ⟨rfl, .inl ⟨rfl, (firstPhase_quiet hp).1, rfl, rfl⟩⟩
  refine ⟨⟨ho.cfg, ho.hlen, ho.blen, ho.maxl, ho.tmo⟩, fun i => ⟨by rw [ho.hdr]; rfl, by rw [ho.body]; rfl⟩,
    fun hb => ?_, ho.inputs, ho.rdata⟩
  obtain ⟨-, ⟨-, -, hres⟩ | ⟨hb', -⟩⟩ := resume_keeps (fun _ _ ht hu => tick_underway ht hu) h0
  · exact hres
  · simp [hb'] at hb

/-- R42: only READ_RESPONSE (3) stores payload bytes. -/
theorem operation_keepsRbuf (hc : c ≠ 3) : KeepsRbuf s (resume (startOperation c ph s)) := by
  have hout : ph ≠ .rCheck := by
    rintro rfl
    exact hc (Option.some.inj (firstPhase_operation hp)).symm
  have hrun : OutsideResponse (startOperation c ph s) (resume (startOperation c ph s)) :=
    resume_keeps (fun _ _ ht hu => tick_outsideResponse ht hu) ⟨⟨(firstPhase_quiet hp).2.2, hout⟩, rfl, rfl⟩
  exact fun i => by rw [hrun.rbuf]; rfl

/-- R11, R12, R22, R27: what an operation that is not BEGIN (0) writes of the flags. -/
theorem operation_flags (hc : c ≠ 0) : FlagsOfOperation c s (resume (startOperation c ph s)) :=
  resume_keeps (fun _ _ ht hu => tick_flagsOfOperation hc ht hu)
    ⟨.inr (firstPhase_operation hp), fun _ => ⟨rfl, rfl⟩, fun _ => rfl, rfl⟩

end

/-- Settles O10: a run of BEGIN moves no byte, and keeps what every operation keeps. -/
theorem beginFrame : Obligations.BeginFrame := by
  intro s t hb h
  cases (exec_operation (c := 0) hb rfl).symm.trans h
  obtain ⟨hlatches, hcommand, hresult, hinputs, hrdata⟩ := operation_frame (c := 0) (ph := .bInit) rfl s
  have hm := operation_movesNoByte (c := 0) (ph := .bInit) (by decide) rfl s
  obtain ⟨htxn, hstaged⟩ := hm.txn (by decide)
  exact ⟨hlatches, hcommand, operation_keepsRbuf rfl s (by decide), hresult, htxn, hstaged, hm.committed, hm.accepts,
    hm.reads, hm.readies (by decide), hinputs, hrdata, hm.log⟩

/-- Settles O13: neither operation moves a byte, or writes a flag of another operation. -/
theorem wakeAndWaitReadyFrame : Obligations.WakeAndWaitReadyFrame := by
  intro i s t hi hb h
  obtain ⟨c, ph, rfl, hp, hc, hwake, hwait⟩ : ∃ c ph, i = decodeOpCode c ∧ firstPhase c = some ph ∧
      (c = 1 ∨ c = 4) ∧ (i = .wake → c ≠ 4) ∧ (i = .waitReady → c ≠ 1) := by
    obtain rfl | rfl := hi
    · exact ⟨1, .kOpen, rfl, rfl, .inl rfl, by decide, by decide⟩
    · exact ⟨4, .gWait, rfl, rfl, .inr rfl, by decide, by decide⟩
  cases (exec_operation hb hp).symm.trans h
  obtain ⟨hlatches, hcommand, hresult, hinputs, hrdata⟩ := operation_frame hp s
  have hm := operation_movesNoByte (.inr hc) hp s
  obtain ⟨h0, h2, h3⟩ : c ≠ 0 ∧ c ≠ 2 ∧ c ≠ 3 := by
    obtain rfl | rfl := hc <;> decide
  have hf := operation_flags hp s h0
  exact ⟨hlatches, hf.pairing h2, hcommand, operation_keepsRbuf hp s h3, hresult, hf.rstn,
    fun hi => hf.rdyres (hwake hi), fun hi => hm.txn (hwait hi), hm.committed, hm.accepts, hm.reads, hinputs, hrdata,
    hm.log⟩

end Sys2Proof.Machine
end

section
/-! PROOFS. WRITE_COMMAND by its pseudocode (R100, R101, R110): the flow of the text, statement by statement, for the
answers that have come. Where it ends, the machine ends. -/

namespace Sys2Proof.Machine

open Pseudo (Flow)

/-! ## From the pseudocode to the machine -/

/-- R20: where the pseudocode of an operation ends, the operation ends. -/
theorem exec_of_finalState {c : OpCode} {s t : State} (hb : s.busy = false) (hc : c.toNat ≤ 4)
    (h : Pseudo.finalState c s = some t) : exec (decodeOpCode c) s = .next t := by
  simpa only [h] using phaseMachineIsThePseudocode c s hb hc

/-- R57: where the pseudocode waits, the operation waits. -/
theorem busy_of_finalState {c : OpCode} {s t : State} (hb : s.busy = false) (hc : c.toNat ≤ 4)
    (h : Pseudo.finalState c s = none) (ht : exec (decodeOpCode c) s = .next t) : t.busy = true := by
  obtain ⟨u, hu, hbusy⟩ : ∃ u, exec (decodeOpCode c) s = .next u ∧ u.busy = true := by
    simpa only [h] using phaseMachineIsThePseudocode c s hb hc
  cases hu.symm.trans ht
  exact hbusy

theorem exec_writeCommand_of_ended {s t : State} (hb : s.busy = false)
    (h : Pseudo.writeCommand (startOperation 2 .idle s) = .ended t) : exec .writeCommand s = .next t :=
  exec_of_finalState (c := 2) hb (by decide) (congrArg Flow.final h)

/-! ## Statements of the pseudocode -/

/-- R101: an accepted byte is staged. -/
theorem emit_accepted (b : Byte) {u : State} {as : List Bool} (ha : u.accepts = true :: as) :
    Pseudo.emit b u = .on () (u.sent [b] as) := by
  rw [Pseudo.emit, ha]
  rfl

/-- R101: bytes that are all accepted are staged. -/
theorem emitAll_accepted (bs : List Byte) {b : Byte} {u : State} {as : List Bool}
    (ha : u.accepts = List.replicate (bs.length + 1) true ++ as) :
    Pseudo.emitAll (b :: bs) u = .on () (u.sent (b :: bs) as) := by
  induction bs generalizing b u with
  | nil => simp [Pseudo.emitAll, Pseudo.emit, ha, Flow.andThen, State.sent, logEmitted, writeEvents]
  | cons c bs ih =>
    rw [Pseudo.emitAll, emit_accepted b ha]
    refine (ih (u := u.sent [b] _) rfl).trans ?_
    simp [State.sent, writeEvents]

/-- R101: a rejected byte ends the operation behind the bytes accepted before it. -/
theorem emitAll_rejected {bs : List Byte} {k : Nat} {b : Byte} {u : State} {as : List Bool} (hk : bs[k]? = some b)
    (ha : u.accepts = List.replicate k true ++ false :: as) :
    Pseudo.emitAll bs u = .ended (abort .writeRejected (logEmitted b false
      { u.sent (bs.take k) as with trace := u.trace ++ writeEvents (bs.take k) ++ [.busWrite b false] })) := by
  induction k generalizing bs u with
  | zero =>
    obtain ⟨bs, rfl⟩ := List.head?_eq_some_iff.1 (List.head?_eq_getElem? ▸ hk)
    simp [Pseudo.emitAll, Pseudo.emit, ha, Flow.andThen, State.sent, writeEvents]
  | succ k ih =>
    obtain ⟨x, bs, rfl⟩ := List.exists_cons_of_ne_nil (show bs ≠ [] by rintro rfl; simp at hk)
    rw [Pseudo.emitAll, emit_accepted x ha]
    refine (ih (u := u.sent [x] _) hk rfl).trans ?_
    simp [State.sent, writeEvents]

/-- Behind the bytes accepted, the next one waits for its answer. -/
theorem emitAll_waiting {bs : List Byte} {k : Nat} {u : State} (hk : k < bs.length)
    (ha : u.accepts = List.replicate k true) : Pseudo.emitAll bs u = .waiting := by
  induction k generalizing bs u with
  | zero =>
    obtain ⟨x, bs, rfl⟩ := List.exists_cons_of_length_pos hk
    simp [Pseudo.emitAll, Pseudo.emit, ha, Flow.andThen]
  | succ k ih =>
    obtain ⟨x, bs, rfl⟩ := List.exists_cons_of_length_pos (Nat.zero_lt_of_lt hk)
    rw [Pseudo.emitAll, emit_accepted x ha]
    exact ih (u := u.sent [x] _) (by simpa using hk) rfl

/-- R110 step 3: the bytes that have come are read in order. -/
theorem readBytes_ready (bs : List Byte) {b : Byte} {u : State} {more : List Byte} (hr : u.reads = b :: bs ++ more) :
    Pseudo.readBytes (bs.length + 1) u = .on (b :: bs) (u.took (b :: bs) more) := by
  induction bs generalizing b u with
  | nil => simp [Pseudo.readBytes, Pseudo.busRead, hr, Flow.andThen, State.took, readEvents]
  | cons c bs ih =>
    have hone : Pseudo.busRead u = .on b (u.took [b] (c :: bs ++ more)) := by
      rw [Pseudo.busRead, hr]
      rfl
    rw [List.length_cons, Pseudo.readBytes, hone, Flow.andThen, ih rfl]
    simp [Flow.andThen, State.took, readEvents]

/-! ## The wait (R140) -/

/-- What a wait leaves that has taken the samples `clock` and `signal`, with `rest` and `rest'` still to come. -/
def State.waited (s : State) (clock : List Nat) (signal : List Bool) (rest : List Nat) (rest' : List Bool) : State :=
  { s with nows := rest, readies := rest', trace := s.trace ++ waitEvents s.cfg clock signal }

/-- The loop of `WaitReady`, behind the clock sample `x`. -/
theorem waitLoop_takes {t0 limit : Nat} {r : Bool} {late rest : List Nat} {rest' : List Bool} {s : State}
    (hlate : if r then late = [] else ∃ v, late = [v] ∧ limit ≤ elapsed s.cfg (clockValue s.cfg v) t0)
    (early : List Nat) (he : ∀ y ∈ early, elapsed s.cfg (clockValue s.cfg y) t0 < limit) (x n : Nat)
    (hn : early.length < n) :
    Pseudo.waitLoop t0 limit n
        (s.waited [x] [] (early ++ late ++ rest) (List.replicate early.length false ++ r :: rest')) =
      .on r (s.waited (x :: early ++ late) (List.replicate early.length false ++ [r]) rest rest') := by
  obtain ⟨n, rfl⟩ : ∃ k, n = k + 1 := ⟨n - 1, by omega⟩
  induction early generalizing s x n with
  | nil =>
    cases r with
    | true =>
      obtain rfl : late = [] := hlate
      simp [Pseudo.waitLoop, Pseudo.ready, Flow.andThen, State.waited, waitEvents, nowEvents]
    | false =>
      obtain ⟨v, rfl, hv⟩ : ∃ v, late = [v] ∧ limit ≤ elapsed s.cfg (clockValue s.cfg v) t0 := hlate
      simp [Pseudo.waitLoop, Pseudo.ready, Pseudo.now, Flow.andThen, State.waited, waitEvents, nowEvents, hv]
  | cons y ys ih =>
    have hy : ¬limit ≤ elapsed s.cfg (clockValue s.cfg y) t0 := Nat.not_le.2 (he y (by simp))
    obtain ⟨n, rfl⟩ : ∃ k, n = k + 1 := ⟨n - 1, by simp at hn; omega⟩
    have hrest := ih (s := s.waited [x] [false] s.nows s.readies) hlate (fun z hz => he z (by simp [hz])) y n
      (by simpa using hn)
    calc Pseudo.waitLoop t0 limit (n + 1 + 1) (s.waited [x] [] (y :: ys ++ late ++ rest)
          (List.replicate (y :: ys).length false ++ r :: rest'))
      _ = Pseudo.waitLoop t0 limit (n + 1) ((s.waited [x] [false] s.nows s.readies).waited [y] []
          (ys ++ late ++ rest) (List.replicate ys.length false ++ r :: rest')) := by
        rw [Pseudo.waitLoop]
        simp [Pseudo.ready, Pseudo.now, Flow.andThen, State.waited, waitEvents, nowEvents, hy, List.replicate_succ]
      _ = _ := hrest
      _ = _ := by simp [State.waited, waitEvents, nowEvents, List.replicate_succ]

/-- R140: `WaitReady` takes its samples, and gives its answer. -/
theorem waitReady_takes {s : State} {limit : Nat} {clock rest : List Nat} {signal rest' : List Bool} {r : Bool}
    (hn : s.nows = clock ++ rest) (hr : s.readies = signal ++ rest') (hw : WaitTakes s.cfg limit clock signal r) :
    Pseudo.waitReady limit s = .on r (s.waited clock signal rest rest') := by
  obtain ⟨x, early, he, rfl, hclock⟩ := hw
  obtain ⟨late, rfl, hlate⟩ : ∃ late, clock = x :: early ++ late ∧
      if r then late = [] else ∃ v, late = [v] ∧ limit ≤ elapsed s.cfg (clockValue s.cfg v) (clockValue s.cfg x) := by
    cases r with
    | true => exact ⟨[], by simpa using hclock, rfl⟩
    | false => obtain ⟨v, hv⟩ := hclock; exact ⟨[v], hv.1, v, rfl, hv.2⟩
  have hlatch : Pseudo.now s = .on (clockValue s.cfg x) (s.waited [x] [] (early ++ late ++ rest)
      (List.replicate early.length false ++ r :: rest')) := by
    simp [Pseudo.now, hn, hr, State.waited, waitEvents, nowEvents]
  rw [Pseudo.waitReady, hlatch]
  exact waitLoop_takes hlate early he x _ (by simp [State.waited])

/-! ## The builder (R100) -/

/-- What R100 steps 3 to 5 leave: the record is made, and the transaction opened. -/
def State.opened (s : State) : State := busBegin { s with pendcmd := Memory.read s.hdr 0, pendv := true }

/-- R100 steps 6 to 17: with admitted operands, their frame is emitted, and ACK_CHECK follows. -/
theorem writeCommand_admitted {s : State} (hne : s.hlen ≠ 0) (hmax : tooLong s.cfg s.hlen s.blen = false) :
    Pseudo.writeCommand s =
      (Pseudo.emitAll (commandFrame s) s.opened).andThen fun _ s => Pseudo.ackCheck (busEnd s) := by
  have hle : ¬s.cfg.maxlen.toNat < s.hlen.toNat + s.blen.toNat + 1 := by simpa [tooLong, frameLen] using hmax
  simp only [Pseudo.writeCommand, if_neg hne, if_neg hle, commandFrame, generalFrame, commandData_length]
  rfl

theorem writeCommand_of_emitAll {s : State} {f : Flow Unit} (hne : s.hlen ≠ 0)
    (hmax : tooLong s.cfg s.hlen s.blen = false)
    (hemit : Pseudo.emitAll (commandFrame s) (startOperation 2 .idle s).opened = f) :
    Pseudo.writeCommand (startOperation 2 .idle s) = f.andThen fun _ s => Pseudo.ackCheck (busEnd s) := by
  subst hemit
  exact writeCommand_admitted (s := startOperation 2 .idle s) hne hmax

/-- R101: the whole frame is accepted. -/
theorem emitAll_commandFrame (s : State) {u : State} {as : List Bool}
    (ha : u.accepts = List.replicate (s.hlen.toNat + s.blen.toNat + 8) true ++ as) :
    Pseudo.emitAll (commandFrame s) u = .on () (u.sent (commandFrame s) as) := by
  have hlen : s.hlen.toNat + s.blen.toNat + 8 = (commandFrame s).tail.length + 1 := by
    rw [List.length_tail, commandFrame_length]
    omega
  exact emitAll_accepted (commandFrame s).tail (hlen ▸ ha)

/-- R103: an empty header is refused before the record is made. -/
theorem exec_writeCommand_hdrEmpty {s : State} (hb : s.busy = false) (hz : s.hlen = 0) :
    exec .writeCommand s = .next (abort .hdrEmpty (startOperation 2 .idle s)) :=
  exec_writeCommand_of_ended hb (if_pos hz)

/-- R103: an oversized command is refused behind the record. -/
theorem exec_writeCommand_tooLong {s : State} (hb : s.busy = false) (hne : s.hlen ≠ 0)
    (hlong : s.cfg.maxlen.toNat < s.hlen.toNat + s.blen.toNat + 1) : exec .writeCommand s =
      .next (abort .tooLong { startOperation 2 .idle s with pendcmd := Memory.read s.hdr 0, pendv := true }) :=
  exec_writeCommand_of_ended hb ((if_neg hne).trans (if_pos hlong))

/-- Settles O19: both checks stand before the first event. -/
theorem writeCommandChecksLengths : Obligations.WriteCommandChecksLengths := fun _ hb =>
  ⟨fun hz => ⟨_, exec_writeCommand_hdrEmpty hb hz, ⟨rfl, rfl, rfl, rfl⟩, rfl, rfl, rfl, rfl, rfl⟩,
    fun hne hlong => ⟨_, exec_writeCommand_tooLong hb hne hlong, ⟨rfl, rfl, rfl, rfl⟩, rfl, rfl, rfl, rfl, rfl⟩⟩

/-- Settles O20: the bytes before the rejected one are staged, and no `BusEnd` follows. -/
theorem rejectedWriteSendsNothing : Obligations.RejectedWriteSendsNothing := by
  intro s k later hb hne hmax hk ha
  have hlt : k < (commandFrame s).length := by rw [commandFrame_length]; omega
  have hbyte : (commandFrame s)[k]? = some (commandFrame s)[k] := List.getElem?_eq_getElem hlt
  have hflow := writeCommand_of_emitAll hne hmax (emitAll_rejected hbyte ha)
  exact ⟨_, _, exec_writeCommand_of_ended hb hflow, ⟨rfl, rfl, rfl, rfl⟩, rfl, rfl, hbyte, rfl, rfl, rfl, rfl⟩

/-! ## ACK_CHECK (R110) -/

/-- R110: the wait is answered in time, and an ACK is read. -/
theorem ackCheck_completes {s : State} {clock rest : List Nat} {signal rest' : List Bool} {st : Byte}
    {more : List Byte} (hn : s.nows = clock ++ rest) (hr : s.readies = signal ++ rest')
    (hw : WaitTakes s.cfg s.cfg.acktmo clock signal true) (hb : s.reads = st :: ackRom ++ more)
    (hst : st.getLsbD 0 = true) : Pseudo.ackCheck s =
      .ended (complete (busEnd ((busBegin (s.waited clock signal rest rest')).took (st :: ackRom) more))) := by
  have hread : Pseudo.readBytes 7 (busBegin (s.waited clock signal rest rest')) = _ := readBytes_ready ackRom hb
  rw [Pseudo.ackCheck, waitReady_takes hn hr hw]
  simp [Flow.andThen, hread, hst]

/-- Settles O16: the frame is taken byte by byte, the `BusEnd` commits it, and the ACK passes. -/
theorem writeCommandCompletes : Obligations.WriteCommandCompletes := by
  intro s accepted clock rest signal rest' st more hb hne hmax ha hn hr hw hreads hst
  have hflow := (writeCommand_of_emitAll hne hmax (emitAll_commandFrame s ha)).trans
    (ackCheck_completes hn hr hw hreads hst)
  refine ⟨_, exec_writeCommand_of_ended hb hflow, ⟨rfl, rfl, rfl, rfl⟩, rfl, rfl, rfl, rfl, rfl, rfl, rfl, rfl, rfl,
    rfl, ?_⟩
  simp [State.took, State.waited, State.sent, State.opened]

end Sys2Proof.Machine
end

section
/-! PROOFS. What WRITE_COMMAND records and leaves unchanged, and what goes out on the bus, whatever the answers. -/

namespace Sys2Proof.Machine

/-! ## The pairing record (R102) -/

/-- R11, R12: behind W_CHECK a run of WRITE_COMMAND does not touch the record. -/
structure Recorded (s u : State) : Prop where
  behind : u.ph ≠ .wCheck ∧ u.ph ≠ .bInit
  pendcmd : u.pendcmd = Memory.read s.hdr 0
  pendv : u.pendv = true

/-- R34: no edge leads to W_CHECK, and only B_INIT's own leads to B_INIT. -/
theorem Phase.record_of_edge (p : Phase) : p ≠ .bInit → ∀ q ∈ p.successors, q ≠ .wCheck ∧ q ≠ .bInit := by
  cases p <;> decide

theorem tick_recorded {s u t : State} (h : tick u = some t) (hu : Recorded s u) : Recorded s t := by
  obtain ⟨⟨hw, hi⟩, hpc, hpv⟩ := hu
  have v := tick_visit h
  obtain ⟨hpc', hpv'⟩ := v.pairing hw hi
  exact ⟨u.ph.record_of_edge hi _ v.edge, hpc'.trans hpc, hpv'.trans hpv⟩

theorem wCheck_recorded {s : State} (hne : s.hlen ≠ 0) : Recorded s (wCheck s) := by
  rw [wCheck, if_neg hne]
  dsimp only
  split <;> exact ⟨by simp, rfl, rfl⟩

/-- Settles O21: W_CHECK makes the record, and no visit behind it undoes it. -/
theorem writeCommandRecordsTheCommand : Obligations.WriteCommandRecordsTheCommand := by
  intro s hb hne
  have hrun : resume (startOperation 2 .wCheck s) = resume (wCheck (startOperation 2 .wCheck s)) := resume_of_tick rfl
  have hrec := resume_keeps (fun _ _ ht hu => tick_recorded ht hu)
    (wCheck_recorded (s := startOperation 2 .wCheck s) hne)
  exact ⟨_, (exec_operation (c := 2) hb rfl).trans (congrArg Host.Outcome.next hrun), hrec.pendcmd, hrec.pendv⟩

/-! ## What goes out (R47) -/

/-- Only a `BusEnd` sends, and what has gone out stays. -/
theorem tick_keepsCommitted {u t : State} (h : tick u = some t) (hop : u.ph.operation = some 2) :
    u.committed <+: t.committed := by
  cases hp : u.ph <;> simp [hp, Phase.operation] at hop <;>
    simp only [tick, hp, Option.some.injEq, wHdr, wBody] at h
  case wHead | wHdr | wBody | wDcs | wPost =>
    obtain ⟨as, -, rfl⟩ | ⟨as, -, rfl⟩ := emitByte_cases h
    all_goals repeat' split
    all_goals simp
  case aRead =>
    obtain ⟨b, bs, -, rfl⟩ := askRead_cases h
    dsimp only
    split <;> simp
  case aWait =>
    obtain ⟨x, xs, -, -, rfl⟩ | ⟨r, rs, -, -, rfl⟩ | ⟨x, xs, -, -, rfl⟩ := waitVisit_cases h
    all_goals repeat' split
    all_goals simp
  case wCheck =>
    subst h
    simp only [wCheck]
    repeat' split
    all_goals simp
  case aEval =>
    subst h
    rw [aEval_eq]
    split <;> simp
  case wOpen | aOpen =>
    subst h
    simp [wOpen, aOpen]
  case wCommit | aClose =>
    subst h
    simp only [wCommit, aClose, busEnd_committed]
    split <;> simp

theorem resume_keepsCommitted {u : State} (hu : u.ph = .idle ∨ u.ph.operation = some 2) :
    u.committed <+: (resume u).committed := by
  refine (resume_keeps (P := fun v => (v.ph = .idle ∨ v.ph.operation = some 2) ∧ u.committed <+: v.committed)
    (fun v t ht hv => ?_) ⟨hu, ⟨[], List.append_nil _⟩⟩).2
  obtain ⟨hph, hc⟩ := hv
  have hop : v.ph.operation = some 2 := hph.resolve_left (not_idle_of_tick ht)
  exact ⟨(v.ph.operation_of_edge t.ph (tick_visit ht).edge).imp_right (·.trans hop),
    hc.trans (tick_keepsCommitted ht hop)⟩

/-- A run of WRITE_COMMAND that has come to ACK_CHECK, after `sent` has gone out: its transaction carries no writes. -/
structure AckUnderway (sent : List (List Byte)) (u : State) : Prop where
  within : u.ph ∈ [Phase.idle, .aWait, .aOpen, .aRead, .aClose, .aEval]
  reads : u.ph = .aRead ∨ u.ph = .aClose → u.txn ≠ .writing
  committed : u.committed = sent

/-- R110: ACK_CHECK sends nothing. -/
theorem tick_ackUnderway {sent : List (List Byte)} {u t : State} (h : tick u = some t) (hu : AckUnderway sent u) :
    AckUnderway sent t := by
  obtain ⟨hin, hreads, hsent⟩ := hu
  cases hp : u.ph <;> simp [hp] at hin hreads <;> simp only [tick, hp, Option.some.injEq, reduceCtorEq] at h
  case aWait =>
    obtain ⟨x, xs, -, -, rfl⟩ | ⟨r, rs, -, -, rfl⟩ | ⟨x, xs, -, -, rfl⟩ := waitVisit_cases h
    all_goals repeat' split
    all_goals constructor <;> simp [hp, hsent]
  case aRead =>
    obtain ⟨b, bs, -, rfl⟩ := askRead_cases h
    dsimp only
    split <;> constructor <;> simp [hp, hsent]
  case aOpen | aClose =>
    subst h
    simp only [aOpen, aClose]
    constructor <;> simp [hsent, hreads]
  case aEval =>
    subst h
    rw [aEval_eq]
    split <;> constructor <;> simp [hsent]

/-- A list of answers is `n` times 1 and more, or less than `n` times 1 and then 0 or nothing. -/
theorem accepts_cases (n : Nat) (as : List Bool) : (∃ later, as = List.replicate n true ++ later) ∨
    ∃ k < n, (∃ later, as = List.replicate k true ++ false :: later) ∨ as = List.replicate k true := by
  induction n generalizing as with
  | zero => exact .inl ⟨as, rfl⟩
  | succ n ih =>
    match as with
    | [] => exact .inr ⟨0, by omega, .inr rfl⟩
    | false :: as => exact .inr ⟨0, by omega, .inl ⟨as, rfl⟩⟩
    | true :: as =>
      obtain ⟨later, rfl⟩ | ⟨k, hk, ⟨later, rfl⟩ | rfl⟩ := ih as
      · exact .inl ⟨later, rfl⟩
      · exact .inr ⟨k + 1, by omega, .inl ⟨later, rfl⟩⟩
      · exact .inr ⟨k + 1, by omega, .inr rfl⟩

/-- W_HEAD with nothing emitted, for admitted operands. -/
def State.atHead (s : State) : State :=
  { s.opened with lenr := BitVec.ofNat 8 (frameLen s.hlen s.blen), idx := 0, ph := .wHead }

/-- R100 steps 1 to 5. -/
theorem resume_wCheck {s : State} (hp : s.ph = .wCheck) (hne : s.hlen ≠ 0)
    (hmax : tooLong s.cfg s.hlen s.blen = false) : resume s = resume s.atHead := by
  have hcheck : tick s = some (wCheck s) := by simp only [tick, hp]
  have hpass : wCheck s = { s with
      pendcmd := readHdr s 0, pendv := true, lenr := BitVec.ofNat 8 (frameLen s.hlen s.blen), ph := .wOpen } :=
    (if_neg hne).trans (if_neg (by simpa using hmax))
  exact (resume_of_tick (hpass ▸ hcheck)).trans (resume_of_tick rfl)

section
variable {s t : State} (hb : s.busy = false) (hne : s.hlen ≠ 0) (hmax : tooLong s.cfg s.hlen s.blen = false)
include hb hne hmax

/-- The whole frame goes out before ACK_CHECK, which sends nothing. -/
theorem committed_of_accepted {later : List Bool}
    (ha : s.accepts = List.replicate (s.hlen.toNat + s.blen.toNat + 8) true ++ later)
    (h : exec .writeCommand s = .next t) : t.committed = s.committed ++ [commandFrame s] := by
  cases (exec_operation (c := 2) hb rfl).symm.trans h
  have hlen : s.hlen.toNat + s.blen.toNat + 8 = (commandFrame s).length := by rw [commandFrame_length]; omega
  obtain ⟨sum, i, hrun⟩ := resume_commandFrame (s := (startOperation 2 .wCheck s).atHead) (as := later) rfl rfl hne
    (frameLen_toNat hmax) (hlen ▸ ha)
  rw [resume_wCheck (s := startOperation 2 .wCheck s) rfl hne hmax, hrun]
  exact (resume_keeps (P := AckUnderway (s.committed ++ [commandFrame s])) (fun _ _ ht hu => tick_ackUnderway ht hu)
    ⟨by simp, by simp, rfl⟩).committed

/-- With a rejection as its next answer, a run that waits inside the frame would end with nothing sent; and what has
gone out stays, so nothing has gone out. -/
theorem committed_of_waiting {k : Nat} (hk : k < s.hlen.toNat + s.blen.toNat + 8)
    (ha : s.accepts = List.replicate k true) (h : exec .writeCommand s = .next t) : t.committed = s.committed := by
  have hfinal : Pseudo.finalState 2 s = none := by
    have hlt : k < (commandFrame s).length := by rw [commandFrame_length]; omega
    exact congrArg Flow.final (writeCommand_of_emitAll hne hmax (emitAll_waiting hlt ha))
  have hmore := exec_more (c := 2) hb h (busy_of_finalState hb (by decide) hfinal h) s.inputs [] [] [false] []
  obtain ⟨v, -, hv, -, hsent, -⟩ := rejectedWriteSendsNothing (s.more [] [] [false] []) k [] hb hne hmax hk
    (congrArg (· ++ [false]) ha)
  obtain rfl : v = resume ((t.queue s.inputs).more [] [] [false] []) := Host.Outcome.next.inj (hv.symm.trans hmore)
  have ht : resume (startOperation 2 .wCheck s) = t :=
    Host.Outcome.next.inj ((exec_operation (c := 2) hb rfl).symm.trans h)
  have hwithin : t.ph = .idle ∨ t.ph.operation = some 2 := ht ▸ (operation_flags (c := 2) rfl s (by decide)).within
  have hbefore : s.committed <+: t.committed := ht ▸ resume_keepsCommitted (u := startOperation 2 .wCheck s) (.inr rfl)
  have hafter := resume_keepsCommitted (u := (t.queue s.inputs).more [] [] [false] []) hwithin
  rw [hsent] at hafter
  exact antisymm (r := (· <+: ·)) hafter hbefore

end

/-- R47: what a run of WRITE_COMMAND sends is nothing, or the whole frame. -/
theorem writeCommand_committed {s t : State} (hb : s.busy = false) (h : exec .writeCommand s = .next t) :
    t.committed = s.committed ∨ t.committed = s.committed ++ [commandFrame s] := by
  by_cases hne : s.hlen = 0
  · cases (exec_writeCommand_hdrEmpty hb hne).symm.trans h
    exact .inl rfl
  by_cases hlong : s.cfg.maxlen.toNat < s.hlen.toNat + s.blen.toNat + 1
  · cases (exec_writeCommand_tooLong hb hne hlong).symm.trans h
    exact .inl rfl
  have hmax : tooLong s.cfg s.hlen s.blen = false := by simpa [tooLong, frameLen] using hlong
  obtain ⟨later, ha⟩ | ⟨k, hk, ⟨later, ha⟩ | ha⟩ := accepts_cases (s.hlen.toNat + s.blen.toNat + 8) s.accepts
  · exact .inr (committed_of_accepted hb hne hmax ha h)
  · obtain ⟨v, -, hv, -, hsent, -⟩ := rejectedWriteSendsNothing s k later hb hne hmax hk ha
    cases hv.symm.trans h
    exact .inl hsent
  · exact .inl (committed_of_waiting hb hne hmax hk ha h)

/-- Settles O22: WRITE_COMMAND keeps what every operation keeps, writes no flag but the record, and sends nothing or its
frame. -/
theorem writeCommandFrame : Obligations.WriteCommandFrame := by
  intro s t hb h
  have hsent := writeCommand_committed hb h
  cases (exec_operation (c := 2) hb rfl).symm.trans h
  obtain ⟨hlatches, hcommand, hresult, hinputs, hrdata⟩ := operation_frame (c := 2) (ph := .wCheck) rfl s
  have hf := operation_flags (c := 2) (ph := .wCheck) rfl s (by decide)
  have hout : OutsideResponse (startOperation 2 .wCheck s) (resume (startOperation 2 .wCheck s)) :=
    resume_keeps (fun _ _ ht hu => tick_outsideResponse ht hu) ⟨⟨rfl, nofun⟩, rfl, rfl⟩
  exact ⟨hlatches, hcommand, operation_keepsRbuf rfl s (by decide), hresult, hf.rdyres (by decide), hf.rstn, hout.plen,
    hinputs, hrdata, hsent⟩

end Sys2Proof.Machine
end

section
/-! PROOFS. How a run takes the samples of a readiness wait, and from it the runs of ACK_CHECK to each of their ends;
the reads that its verdict accepts. -/

namespace Sys2Proof.Machine

/-! ## One readiness sample -/

/-- A run takes the next readiness sample as its phase says. -/
theorem resume_ready {k : Bool → State → State} {s : State} {r : Bool} {rs : List Bool} (ht : tick s = askReady k s)
    (hr : s.readies = r :: rs) :
    resume s = resume (k r { s with readies := rs, trace := s.trace ++ [.ready r] }) :=
  resume_of_tick (by rw [ht, askReady, hr])

/-! ## A wait (R140) -/

/-- What a wait holds behind a readiness sample of 0 and the clock sample `y` that follows it. -/
def State.polled (s : State) (y : Nat) (ns : List Nat) (rs : List Bool) : State :=
  { s with nows := ns, readies := rs, trace := s.trace ++ [.ready false, .now (clockValue s.cfg y)] }

section
variable {d : Nat} {yes no : State → State} {rest : List Nat} {rest' : List Bool}

/-- A readiness sample ends the wait when it is 1, and is followed by a clock sample when it is 0. -/
theorem resume_waitSignal {s : State} {r : Bool} (ht : tick s = waitVisit d yes no s) (hs : s.sub = .ready)
    (hr : s.readies = r :: rest') : resume s = resume (
      if r then yes { s with readies := rest', trace := s.trace ++ [.ready r] }
      else { s with readies := rest', trace := s.trace ++ [.ready r], sub := .clock }) :=
  resume_ready (ht.trans (by rw [waitVisit, hs])) hr

/-- The clock sample behind a readiness sample of 0 ends the wait, or it goes on. -/
theorem resume_waitClock {s : State} {y : Nat} (ht : tick s = waitVisit d yes no s) (hs : s.sub = .clock)
    (hn : s.nows = y :: rest) : resume s = resume (
      if s.tmor ≤ elapsed s.cfg (clockValue s.cfg y) s.t0 then no (s.sampled [y] rest)
      else { s.sampled [y] rest with sub := .ready }) := by
  have hask : tick s = askNow (fun v s => if timedOut s v then no s else { s with sub := .ready }) s :=
    ht.trans (by rw [waitVisit, hs])
  refine (resume_now hask hn).trans (congrArg resume ?_)
  simp only [timedOut, decide_eq_true_eq]
  rfl

/-- A readiness sample of 0, with its clock sample. -/
theorem resume_waitPoll {s : State} {y : Nat}
    (ht : ∀ u, u.ph = s.ph → u.cfg = s.cfg → tick u = waitVisit d yes no u)
    (hs : s.sub = .ready) (hr : s.readies = false :: rest') (hn : s.nows = y :: rest) : resume s = resume (
      if s.tmor ≤ elapsed s.cfg (clockValue s.cfg y) s.t0 then no { s.polled y rest rest' with sub := .clock }
      else s.polled y rest rest') := by
  have hclock := resume_waitClock (rest := rest) (y := y)
    (ht { s with readies := rest', trace := s.trace ++ [.ready false], sub := .clock } rfl rfl) rfl hn
  refine (resume_waitSignal (ht s rfl rfl) hs hr).trans (hclock.trans (congrArg resume ?_))
  simp [State.sampled, State.polled, nowEvents, hs]

/-- The loop of `WaitReady`, behind the clock sample `x`: the samples before its end are `early`. -/
theorem resume_waitLoop {r : Bool} {late : List Nat} (early : List Nat) {s : State} (x : Nat)
    (ht : ∀ u, u.ph = s.ph → u.cfg = s.cfg → tick u = waitVisit d yes no u)
    (he : ∀ y ∈ early, elapsed s.cfg (clockValue s.cfg y) s.t0 < s.tmor)
    (hlate : if r then late = [] else ∃ v, late = [v] ∧ s.tmor ≤ elapsed s.cfg (clockValue s.cfg v) s.t0) :
    ∃ sub, resume { s.waited [x] [] (early ++ late ++ rest) (List.replicate early.length false ++ r :: rest') with
        sub := .ready } =
      resume ((if r then yes else no) { s.waited (x :: early ++ late) (List.replicate early.length false ++ [r]) rest
        rest' with sub := sub }) := by
  induction early generalizing s x with
  | nil =>
    cases r with
    | true =>
      obtain rfl : late = [] := hlate
      refine ⟨.ready, (resume_waitSignal (s := { s.waited [x] [] rest (true :: rest') with sub := .ready })
        (ht _ rfl rfl) rfl rfl).trans ?_⟩
      simp [State.waited, waitEvents, nowEvents]
    | false =>
      obtain ⟨v, rfl, hv⟩ : ∃ v, late = [v] ∧ s.tmor ≤ elapsed s.cfg (clockValue s.cfg v) s.t0 := hlate
      refine ⟨.clock, (resume_waitPoll (s := { s.waited [x] [] (v :: rest) (false :: rest') with sub := .ready })
        ht rfl rfl rfl).trans ((congrArg resume (if_pos hv)).trans ?_)⟩
      simp [State.waited, State.polled, waitEvents, nowEvents]
  | cons y ys ih =>
    have hy : ¬s.tmor ≤ elapsed s.cfg (clockValue s.cfg y) s.t0 := Nat.not_le.2 (he y (by simp))
    have hone := (resume_waitPoll (s := { s.waited [x] [] (y :: ys ++ late ++ rest)
      (List.replicate (y :: ys).length false ++ r :: rest') with sub := .ready }) ht rfl rfl rfl).trans
        (congrArg resume (if_neg hy))
    obtain ⟨sub, hrest⟩ := ih (s := s.waited [x] [false] s.nows s.readies) y ht
      (fun z hz => he z (by simp [hz])) hlate
    refine ⟨sub, hone.trans (Eq.trans ?_ (hrest.trans ?_))⟩
    all_goals simp [State.waited, State.polled, waitEvents, nowEvents, List.replicate_succ]

/-- `WaitReady(d)`: the first clock sample is latched, and the last sample gives the answer. -/
theorem resume_waitReady {s : State} {clock : List Nat} {signal : List Bool} {r : Bool}
    (ht : ∀ u, u.ph = s.ph → u.cfg = s.cfg → tick u = waitVisit d yes no u) (hs : s.sub = .latch)
    (hn : s.nows = clock ++ rest) (hr : s.readies = signal ++ rest') (hw : WaitTakes s.cfg d clock signal r) :
    ∃ t0 sub, resume s =
      resume ((if r then yes else no) { s.waited clock signal rest rest' with t0 := t0, tmor := d, sub := sub }) := by
  obtain ⟨x, early, he, rfl, hclock⟩ := hw
  obtain ⟨late, rfl, hlate⟩ : ∃ late, clock = x :: early ++ late ∧
      if r then late = [] else ∃ v, late = [v] ∧ d ≤ elapsed s.cfg (clockValue s.cfg v) (clockValue s.cfg x) := by
    cases r with
    | true => exact ⟨[], by simpa using hclock, rfl⟩
    | false => obtain ⟨v, hv⟩ := hclock; exact ⟨[v], hv.1, v, rfl, hv.2⟩
  have hlatch : tick s = askNow (fun v s => { s with t0 := v, tmor := d, sub := .ready }) s := by
    rw [ht s rfl rfl, waitVisit, hs]
  obtain ⟨sub, hloop⟩ := resume_waitLoop (s := { s with t0 := clockValue s.cfg x, tmor := d }) (rest := rest)
    (rest' := rest') early x ht he hlate
  refine ⟨clockValue s.cfg x, sub, (resume_now hlatch hn).trans (Eq.trans ?_ hloop)⟩
  simp [State.sampled, State.waited, waitEvents, hr]

end

/-! ## ACK_CHECK (R110) -/

section
variable {s : State} {clock rest : List Nat} {signal rest' : List Bool} (hp : s.ph = .aWait) (hs : s.sub = .latch)
  (hn : s.nows = clock ++ rest) (hr : s.readies = signal ++ rest')
include hp hs hn hr

/-- R110 step 1: the wait takes its samples. -/
theorem resume_aWait {r : Bool} (hw : WaitTakes s.cfg s.cfg.acktmo clock signal r) : ∃ t0 sub, resume s = resume
    ((if r then fun s => { s with ph := .aOpen, sub := .latch } else abort .ackWaitTimeout)
      { s.waited clock signal rest rest' with t0 := t0, tmor := s.cfg.acktmo, sub := sub }) :=
  resume_waitReady (fun u hu hc => by simp only [tick, hu.trans hp, aWait, hc]) hs hn hr hw

/-- R110 step 1: no answer in time ends the operation. -/
theorem resume_aWait_timeout (hw : WaitTakes s.cfg s.cfg.acktmo clock signal false) :
    resume s = abort .ackWaitTimeout (s.waited clock signal rest rest') := by
  obtain ⟨t0, sub, hrun⟩ := resume_aWait hp hs hn hr hw
  exact hrun.trans (resume_of_rest (tick_idle rfl))

/-- R110 steps 2 to 7: seven bytes are read in one transaction, and the verdict on them ends the operation. -/
theorem resume_aWait_ready {buf : Vector Byte 7} {more : List Byte}
    (hw : WaitTakes s.cfg s.cfg.acktmo clock signal true) (hb : s.reads = buf.toList ++ more) :
    resume s = abort (ackVerdict buf)
      (busEnd ((busBegin (s.waited clock signal rest rest')).took buf.toList more)) := by
  obtain ⟨t0, sub, hrun⟩ := resume_aWait hp hs hn hr hw
  obtain ⟨buf', hbuf, hread⟩ := resume_aRead buf.toList (more := more)
    (s := aOpen { s.waited clock signal rest rest' with t0 := t0, tmor := s.cfg.acktmo, ph := .aOpen, sub := .latch })
    rfl hb (by simp [aOpen]) (by simp [aOpen])
  obtain rfl : buf' = buf := Vector.toList_inj.1 (by simpa [aOpen] using hbuf)
  exact hrun.trans ((resume_of_tick rfl).trans (hread.trans (resume_aClose rfl)))

end

theorem toList_eq_cons_tail (buf : Vector Byte 7) : buf.toList = buf[0] :: buf.toList.tail := by
  rw [toList_seven]
  rfl

/-- R110 steps 5 to 7: the verdict, as a matter of the status byte and of the six bytes behind it. -/
theorem ackVerdict_eq (buf : Vector Byte 7) : ackVerdict buf =
    if buf[0].getLsbD 0 = false then .ackStatusNotReady
    else if buf.toList.tail ≠ ackRom then .ackPatternMismatch else .none :=
  ackVerdict_of_toList (toList_eq_cons_tail buf)

theorem result_ackVerdict (buf : Vector Byte 7) : (ackVerdict buf).result =
    if buf[0].getLsbD 0 = false then .invalidAck else if buf.toList.tail ≠ ackRom then .invalidAck else .ok := by
  rw [ackVerdict_eq, apply_ite Cause.result, apply_ite Cause.result]
  rfl

/-- Settles O17: the wait takes its samples; then it ends the operation, or the verdict on the seven bytes does. -/
theorem ackCheckVerdicts : Obligations.AckCheckVerdicts := by
  refine ⟨fun s clock rest signal rest' hp hs hn hr hw => ?_,
    fun s clock rest signal rest' buf more hp hs hn hr hw hb => ?_⟩
  · rw [resume_aWait_timeout hp hs hn hr hw]
    exact ⟨⟨rfl, rfl, rfl, rfl⟩, rfl, rfl⟩
  · rw [← result_ackVerdict, ← ackVerdict_eq, resume_aWait_ready hp hs hn hr hw hb]
    refine ⟨⟨rfl, rfl, rfl, rfl⟩, ?_⟩
    simp [State.took, State.waited]

/-! ## The reads accepted (R111) -/

theorem ackVerdict_eq_none_iff (buf : Vector Byte 7) :
    ackVerdict buf = .none ↔ buf[0].getLsbD 0 = true ∧ buf.toList.tail = ackRom := by
  rw [ackVerdict_eq]
  split
  · next hst => simp only [reduceCtorEq, hst, Bool.false_eq_true, false_and]
  · next hst =>
    simp only [Bool.not_eq_false] at hst
    simp [hst]

/-- Settles O18: the status bit is set and the other bytes are the constant, so the seven bits above it stay free. -/
theorem ackAcceptsExactlyOneHundredTwentyEight : Obligations.AckAcceptsExactlyOneHundredTwentyEight := by
  refine ⟨fun buf => (ackVerdict_eq_none_iff buf).trans ⟨fun ⟨hst, hrom⟩ => ?_, ?_⟩, fun h h' heq => ?_⟩
  · refine ⟨buf[0].extractLsb' 1 7, Vector.toList_inj.1 ?_⟩
    have hbyte : buf[0].extractLsb' 1 7 ++ 1#1 = buf[0] := extractLsb_append_one hst
    rw [toList_eq_cons_tail, hrom, hbyte]
    rfl
  · rintro ⟨h, rfl⟩
    exact ⟨statusReady_append_one h, rfl⟩
  · have hbyte : h ++ 1#1 = h' ++ 1#1 := congrArg (fun buf : Vector Byte 7 => buf[0]) heq
    calc h = (h ++ 1#1).extractLsb' 1 7 := BitVec.extractLsb'_append_eq_left.symm
      _ = (h' ++ 1#1).extractLsb' 1 7 := congrArg _ hbyte
      _ = h' := BitVec.extractLsb'_append_eq_left

end Sys2Proof.Machine
end

section
/-! PROOFS. READ_RESPONSE up to its first read, by its pseudocode, and the round trip of a response (R120, R125). -/

namespace Sys2Proof.Machine

open Pseudo (Flow)

/-! ## The record and the wait (R120 steps 1 and 2) -/

theorem exec_readResponse_of_ended {s t : State} (hb : s.busy = false)
    (h : Pseudo.readResponse (startOperation 3 .idle s) = .ended t) : exec .readResponse s = .next t :=
  exec_of_finalState (c := 3) hb (by decide) (congrArg Flow.final h)

/-- With a command recorded, the wait takes its samples, and its answer decides whether a byte is read. -/
theorem readResponse_wait {s : State} {clock rest : List Nat} {signal rest' : List Bool} {r : Bool}
    (hv : s.pendv = true) (hn : s.nows = clock ++ rest) (hr : s.readies = signal ++ rest')
    (hw : WaitTakes s.cfg s.tmo clock signal r) : Pseudo.readResponse s =
      if r then Pseudo.parseResponse (busBegin (s.waited clock signal rest rest'))
      else .ended (abort .rspWaitTimeout (s.waited clock signal rest rest')) := by
  rw [Pseudo.readResponse, if_neg (by simp [hv]), waitReady_takes hn hr hw]
  cases r <;> rfl

/-- Settles O28: the wait takes its samples, and no read follows. -/
theorem readResponseTimeoutReadsNothing : Obligations.ReadResponseTimeoutReadsNothing := by
  intro s clock rest signal rest' hb hv hn hr hw
  have hflow := readResponse_wait (s := startOperation 3 .idle s) hv hn hr hw
  exact ⟨_, exec_readResponse_of_ended hb hflow, ⟨rfl, rfl, rfl, rfl⟩, rfl, rfl, rfl, rfl⟩

/-- Settles O27: the check of the record is the first visit, and no visit of READ_RESPONSE writes the record. -/
theorem readResponseNeedsARecord : Obligations.ReadResponseNeedsARecord := by
  intro s hb
  refine ⟨fun hv => ?_, _, exec_operation (c := 3) hb rfl, ?_⟩
  · have hflow : Pseudo.readResponse (startOperation 3 .idle s) =
        .ended (abort .noPending (startOperation 3 .idle s)) := if_pos hv
    exact ⟨_, exec_readResponse_of_ended hb hflow, ⟨rfl, rfl, rfl, rfl⟩, rfl, rfl, rfl⟩
  · exact (operation_flags (c := 3) rfl s (by decide)).pairing (by decide)

/-! ## From the first read on (R120 step 4) -/

/-- A machine that follows the pseudocode and ends does so where the pseudocode ends. -/
theorem Follows.ended_of_resume {m : State} {f : Flow Unit} (h : Follows m f) (hend : (resume m).busy = false) :
    f = .ended (resume m) := by
  cases f with
  | on _ _ => exact h.elim
  | ended u => exact congrArg _ h.symm
  | waiting => cases hend.symm.trans h

/-- Behind a wait that is answered in time, READ_RESPONSE is the run from R_STATUS on. -/
theorem exec_readResponse_of_wait {s : State} {clock rest : List Nat} {signal rest' : List Bool} (hb : s.busy = false)
    (hv : s.pendv = true) (hn : s.nows = clock ++ rest) (hr : s.readies = signal ++ rest')
    (hw : WaitTakes s.cfg s.tmo clock signal true)
    (hend : (resume (rOpen ((startOperation 3 .rOpen s).waited clock signal rest rest'))).busy = false) :
    exec .readResponse s =
      .next (resume (rOpen ((startOperation 3 .rOpen s).waited clock signal rest rest'))) := by
  have hparse := follows_parseResponse (u := busBegin ((startOperation 3 .idle s).waited clock signal rest rest'))
    (l := (startOperation 3 .idle s).locals) rfl
  exact exec_readResponse_of_ended hb
    ((readResponse_wait (s := startOperation 3 .idle s) hv hn hr hw).trans (hparse.ended_of_resume hend))

/-- R120 step 4: bit 0 of the status byte is checked. -/
theorem resume_rStatus {s : State} {b : Byte} {more : List Byte} (hr : s.reads = b :: more) (hp : s.ph = .rStatus) :
    resume s = if statusReady b then resume { s.took [b] more with st := b, ph := .rPre }
      else abort .rspStatusNotReady (busEnd (s.took [b] more)) := by
  refine (resume_read (k := fun b s =>
    let s := { s with st := b }
    if statusReady b then { s with ph := .rPre } else abortTxn .rspStatusNotReady s)
    (by simp only [tick, hp, rStatus]) hr).trans ?_
  dsimp only
  split
  · rfl
  · exact resume_abortTxn _ _

/-! ## The round trip (R125) -/

/-- R61, R63: the response frame for an echo and a payload, byte by byte. -/
theorem generalFrame_response (echo : Byte) (payload : List Byte) (post : Byte) :
    generalFrame 0xD5 (echo :: payload) post =
      0x00 :: 0x00 :: 0xFF :: BitVec.ofNat 8 (payload.length + 2) :: lcsGen (BitVec.ofNat 8 (payload.length + 2)) ::
        0xD5 :: echo :: (payload ++ [dcsGen (sumBytes 0xD5 (echo :: payload)), post]) := rfl

/-- R120 steps 4 to 19: a status byte and a response built for the recorded command are accepted. -/
theorem resume_builtResponse {s : State} {st post : Byte} {payload more : List Byte} (hp : s.ph = .rStatus)
    (hst : st.getLsbD 0 = true) (hff : s.pendcmd ≠ 0xFF) (hle : payload.length ≤ 253)
    (hmax : payload.length ≤ s.maxl.toNat)
    (hr : s.reads = st :: generalFrame 0xD5 ((s.pendcmd + 1) :: payload) post ++ more) :
    ∃ len : Byte, (len - 2).toNat = payload.length ∧ resume s = complete (busEnd
      { s.took (st :: generalFrame 0xD5 ((s.pendcmd + 1) :: payload) post) more with
        plen := len - 2, rbuf := s.rbuf.writeBytes 0 payload }) := by
  have hecho : echoOk s.pendcmd (s.pendcmd + 1) = true := (echoOk_iff _ _).2 (by bv_omega)
  have hdcs := dcsOk_dcsGen (sumBytes 0xD5 ((s.pendcmd + 1) :: payload))
  rw [generalFrame_response] at hr ⊢
  generalize hlen : BitVec.ofNat 8 (payload.length + 2) = len at hr ⊢
  have hlenr : len.toNat = payload.length + 2 := by
    rw [← hlen, BitVec.toNat_ofNat]
    omega
  generalize dcsGen (sumBytes 0xD5 ((s.pendcmd + 1) :: payload)) = dcs at hr hdcs ⊢
  have hreads : s.reads = st :: 0x00 :: 0x00 :: 0xFF :: len :: lcsGen len :: 0xD5 :: (s.pendcmd + 1) ::
      (payload ++ dcs :: post :: more) := by rw [hr]; simp
  obtain ⟨i, x, hrun⟩ := resume_response (s := { s.took [st] _ with st := st, ph := .rPre }) rfl rfl
    (lcsOk_lcsGen len) hecho hlenr hmax hdcs
  refine ⟨len, by bv_omega, (resume_rStatus hreads hp).trans ((if_pos hst).trans (hrun.trans ?_))⟩
  simp [State.took, readEvents]
  rfl

/-- Settles O24: the frame is built with the lengths and checksums that the engine checks. -/
theorem readResponseRoundTrip : Obligations.ReadResponseRoundTrip := by
  intro s clock rest signal rest' st post payload more hb hv hff hmax hle hn hr hw hst hreads
  obtain ⟨len, hlen, hrun⟩ := resume_builtResponse
    (s := rOpen ((startOperation 3 .rOpen s).waited clock signal rest rest')) rfl hst hff hle hmax hreads
  have hexec := exec_readResponse_of_wait hb hv hn hr hw (by rw [hrun]; rfl)
  rw [hrun] at hexec
  obtain ⟨-, t, hexec', hpendcmd, hpendv⟩ := readResponseNeedsARecord s hb
  obtain rfl : t = _ := Host.Outcome.next.inj (hexec'.symm.trans hexec)
  have hread (i : Nat) := Memory.read_writeBytes payload s.rbuf 0 i
  exact ⟨_, hexec, ⟨rfl, rfl, rfl, rfl⟩, rfl, hlen, fun i hi => (hread i).trans (if_pos (by omega)),
    fun i hi => (hread i).trans (if_neg (by omega)), hpendcmd, hpendv.trans hv, rfl, rfl, rfl, rfl⟩

end Sys2Proof.Machine
end

section
/-! PROOFS. Each check of a response that fails, from the status byte on: the run ends behind one `BusEnd`, after
exactly the bytes up to the failed check (R121). -/

namespace Sys2Proof.Machine

/-! ## The end behind a failed check (R161) -/

/-- What the end of an aborted transaction leaves, for a run from `s` that has come to `u` by reading `bs`. -/
theorem rejected_of_abort {s u : State} {r : ResultCode} {k : Cause} {bs : List Byte}
    (hrun : resume s = abort k (busEnd u)) (hres : k.result = r) (hrbuf : u.rbuf = s.rbuf) (hplen : u.plen = s.plen)
    (htrace : u.trace = s.trace ++ readEvents bs) :
    EndedWith r k (resume s) ∧ (resume s).rbuf = s.rbuf ∧ (resume s).plen = s.plen ∧ (resume s).txn = .closed ∧
      (resume s).trace = s.trace ++ readEvents bs ++ [.busEnd] := by
  rw [hrun, ← htrace]
  exact ⟨⟨rfl, rfl, hres, rfl⟩, hrbuf, hplen, rfl, rfl⟩

/-! ## The length (R120 steps 12 and 13, R123) -/

/-- R120 step 12: `LEN` below 2. -/
theorem resume_rSize_tooShort {s : State} (hp : s.ph = .rSize) (hlen : s.lenr.toNat < 2) :
    resume s = abort .lenTooShort (busEnd s) := by
  have ht : tick s = some (abortTxn .lenTooShort s) := by
    simp only [tick, hp, rSize, lenTooShort, hlen, decide_true, if_true]
  exact (resume_of_tick ht).trans (resume_abortTxn _ _)

/-- R123: a payload longer than `MAXL`. -/
theorem resume_rSize_noSpace {s : State} (hp : s.ph = .rSize) (hlen : s.maxl.toNat + 2 < s.lenr.toNat) :
    resume s = abort .noSpace (busEnd { s with plen := s.lenr - 2 }) := by
  have hlong : ¬s.lenr.toNat < 2 := by omega
  have hfit : s.maxl.toNat < (s.lenr - 2).toNat := by bv_omega
  have ht : tick s = some (abortTxn .noSpace { s with plen := s.lenr - 2 }) := by
    simp only [tick, hp, rSize, lenTooShort, noSpace, hlong, hfit, decide_true, decide_false, Bool.false_eq_true,
      if_false, if_true]
  exact (resume_of_tick ht).trans (resume_abortTxn _ _)

/-! ## Position by position (R121) -/

theorem lcsOk_iff_toNat (len lcs : Byte) : lcsOk len lcs = true ↔ (len.toNat + lcs.toNat) % 256 = 0 :=
  dcsOk_iff_toNat len lcs

section
variable {s : State} {st : Byte} (hp : s.ph = .rStatus) (hst : st.getLsbD 0 = true)
include hp hst

/-- A status byte with bit 0 set is passed. -/
theorem resume_rStatus_ready {more : List Byte} (hr : s.reads = st :: more) :
    resume s = resume { s.took [st] more with st := st, ph := .rPre } :=
  (resume_rStatus hr hp).trans (if_pos hst)

/-- R120 steps 4 to 9. -/
theorem resume_rStatus_lcs {len lcs : Byte} {more : List Byte}
    (hr : s.reads = st :: 0x00 :: 0x00 :: 0xFF :: len :: lcs :: more) : resume s =
      if lcsOk len lcs then
        resume { s.took [st, 0x00, 0x00, 0xFF, len, lcs] more with st := st, lenr := len, ph := .rTfi }
      else abort .badLcs (busEnd (s.took [st, 0x00, 0x00, 0xFF, len, lcs] more)) := by
  rw [resume_rStatus_ready hp hst hr, resume_frameStart rfl rfl]
  simp [State.took, readEvents]
  rfl

/-- R120 steps 4 to 11. -/
theorem resume_rStatus_echo {len lcs echo : Byte} {more : List Byte} (hlcs : (len.toNat + lcs.toNat) % 256 = 0)
    (hr : s.reads = st :: 0x00 :: 0x00 :: 0xFF :: len :: lcs :: 0xD5 :: echo :: more) : resume s =
      if echo.toNat = s.pendcmd.toNat + 1 then
        resume { s.took [st, 0x00, 0x00, 0xFF, len, lcs, 0xD5, echo] more with
          st := st, lenr := len, echo := echo, ph := .rSize }
      else abort .badEcho (busEnd (s.took [st, 0x00, 0x00, 0xFF, len, lcs, 0xD5, echo] more)) := by
  rw [resume_rStatus_lcs hp hst hr, if_pos ((lcsOk_iff_toNat len lcs).2 hlcs), resume_rTfi rfl rfl, if_pos rfl,
    resume_rEcho rfl rfl]
  simp only [← echoOk_iff]
  simp [State.took, readEvents]
  rfl

end

/-- Settles O25: each check is made as soon as its byte has been read, and the run ends behind the one that fails. -/
theorem responseChecksByPosition : Obligations.ResponseChecksByPosition := by
  intro s st pre sc1 sc2 len lcs tfi echo more hp
  refine ⟨fun hr hst => ?_, fun hst => ⟨fun hr hpre => ?_, fun hr hsc1 => ?_, fun hr hsc2 => ?_, fun hr hlcs => ?_,
    fun hlcs => ⟨fun hr htfi => ?_, fun hr => ⟨fun hecho => ?_, fun hecho hlen => ?_⟩⟩⟩⟩
  · exact rejected_of_abort ((resume_rStatus hr hp).trans (if_neg (by simpa [statusReady] using hst))) rfl rfl rfl rfl
  · have hrun := (resume_rStatus_ready hp hst hr).trans ((resume_rPre rfl rfl).trans (if_neg hpre))
    exact rejected_of_abort hrun rfl rfl rfl (by simp [State.took, readEvents])
  · have hrun := (resume_rStatus_ready hp hst hr).trans ((resume_rPre rfl rfl).trans ((if_pos rfl).trans
      ((resume_rSc1 rfl rfl).trans (if_neg hsc1))))
    exact rejected_of_abort hrun rfl rfl rfl (by simp [State.took, readEvents])
  · have hrun := (resume_rStatus_ready hp hst hr).trans ((resume_rPre rfl rfl).trans ((if_pos rfl).trans
      ((resume_rSc1 rfl rfl).trans ((if_pos rfl).trans ((resume_rSc2 rfl rfl).trans (if_neg hsc2))))))
    exact rejected_of_abort hrun rfl rfl rfl (by simp [State.took, readEvents])
  · have hrun := (resume_rStatus_lcs hp hst hr).trans (if_neg (mt (lcsOk_iff_toNat len lcs).1 hlcs))
    exact rejected_of_abort hrun rfl rfl rfl rfl
  · have hrun := (resume_rStatus_lcs hp hst hr).trans ((if_pos ((lcsOk_iff_toNat len lcs).2 hlcs)).trans
      ((resume_rTfi rfl rfl).trans (if_neg htfi)))
    exact rejected_of_abort hrun rfl rfl rfl (by simp [State.took, readEvents])
  · have hrun := (resume_rStatus_echo hp hst hlcs hr).trans (if_neg hecho)
    exact rejected_of_abort hrun rfl rfl rfl rfl
  · have hrun := (resume_rStatus_echo hp hst hlcs hr).trans ((if_pos hecho).trans (resume_rSize_tooShort rfl hlen))
    exact rejected_of_abort hrun rfl rfl rfl rfl

/-- R123: a payload that does not fit is rejected behind the echo, and `PLEN` holds its length. -/
theorem resume_rStatus_noSpace {s : State} {st len lcs echo : Byte} {more : List Byte} (hp : s.ph = .rStatus)
    (hst : st.getLsbD 0 = true) (hlcs : (len.toNat + lcs.toNat) % 256 = 0)
    (hecho : echo.toNat = s.pendcmd.toNat + 1) (hlen : s.maxl.toNat + 2 < len.toNat)
    (hr : s.reads = st :: 0x00 :: 0x00 :: 0xFF :: len :: lcs :: 0xD5 :: echo :: more) :
    resume s = abort .noSpace (busEnd
      { s.took [st, 0x00, 0x00, 0xFF, len, lcs, 0xD5, echo] more with plen := len - 2 }) := by
  rw [resume_rStatus_echo hp hst hlcs hr, if_pos hecho, resume_rSize_noSpace rfl hlen]
  rfl

/-! ## The data checksum (R120 steps 16 to 19) -/

/-- Settles O26: the sum decides whether the postamble is read or the transaction is aborted. -/
theorem wrongDcsIsRejected : Obligations.WrongDcsIsRejected := by
  intro s dcs more hp hr
  refine ⟨fun hdcs => ?_, fun post later hdcs hmore => ?_⟩
  · rw [resume_rDcs hr hp, if_neg (mt (dcsOk_iff_toNat s.sum dcs).1 hdcs)]
    refine ⟨⟨rfl, rfl, rfl, rfl⟩, rfl, rfl, rfl, rfl, ?_⟩
    simp [State.took, readEvents]
  · subst hmore
    rw [resume_frameEnd hp hr ((dcsOk_iff_toNat s.sum dcs).2 hdcs)]
    refine ⟨⟨rfl, rfl, rfl, rfl⟩, rfl, rfl, rfl, ?_⟩
    simp [State.took, readEvents]

end Sys2Proof.Machine
end

section
/-! PROOFS. What READ_RESPONSE stores, whatever the answers: the payload bytes that came, from index 0 up (R124). -/

namespace Sys2Proof.Machine

/-! ## The bytes of a response -/

/-- How many bytes of the response have been read in a phase up to R_SIZE (R120 steps 4 to 11). -/
def Phase.position : Phase → Option Nat
  | .rCheck | .rWait | .rOpen | .rStatus => some 0
  | .rPre => some 1
  | .rSc1 => some 2
  | .rSc2 => some 3
  | .rLen => some 4
  | .rLcs => some 5
  | .rTfi => some 6
  | .rEcho => some 7
  | .rSize => some 8
  | .idle | .wCheck | .wOpen | .wHead | .wHdr | .wBody | .wDcs | .wPost | .wCommit | .aWait | .aOpen | .aRead | .aClose
  | .aEval | .rData | .rDcs | .rPost | .rClose | .gWait | .bInit | .bLow | .bSettle | .kOpen | .kHold | .kClose
  | .xClose => none

/-- How many payload bytes a READ_RESPONSE has stored, as its phase and its cause tell (R124). -/
def State.stored (u : State) : Nat :=
  match u.ph with
  | .rData => u.idx.toNat
  | .rDcs | .rPost | .rClose => u.plen.toNat
  | .xClose => if u.xcause = .badDcs then u.plen.toNat else 0
  | .idle => if u.cause = .none ∨ u.cause = .badDcs then u.plen.toNat else 0
  | _ => 0

/-- Inside the payload of a response to `s` (R120 step 15): the next byte has its place below `PLEN` and `MAXL`; it has
been read, or is the next to be read. -/
structure InPayload (s u : State) : Prop where
  index : u.idx.toNat < u.plen.toNat
  room : u.plen.toNat ≤ u.maxl.toNat
  next : u.sub ≠ .ready → u.reads = s.reads.drop (8 + u.idx.toNat)
  taken : u.sub = .ready → s.reads.drop (8 + u.idx.toNat) = u.rbyte :: u.reads

/-- Where `u` stands in a response to `s`: up to the payload the bytes are read one by one; an abort has its cause. -/
structure InResponse (s u : State) : Prop where
  reads : ∀ n, u.ph.position = some n → u.reads = s.reads.drop n
  payload : u.ph = .rData → InPayload s u
  cause : u.ph = .xClose → u.xcause ≠ .none

/-- R120 steps 12 to 14: the payload starts at index 0, and has at least one byte when it is entered. -/
theorem rSize_inResponse {s u : State} (hr : u.reads = s.reads.drop 8) :
    InResponse s (rSize u) ∧ (rSize u).stored = 0 := by
  simp only [rSize]
  repeat' split
  case isFalse.isFalse.isFalse hfit hz =>
    have hroom : (u.lenr - 2).toNat ≤ u.maxl.toNat := by simpa [noSpace] using hfit
    have hpos : 0 < (u.lenr - 2).toNat := Nat.pos_of_ne_zero fun h0 => hz (BitVec.eq_of_toNat_eq h0)
    exact ⟨⟨nofun, fun _ => ⟨hpos, hroom, fun _ => hr, nofun⟩, nofun⟩, rfl⟩
  case isFalse.isFalse.isTrue hz => exact ⟨⟨nofun, nofun, nofun⟩, congrArg BitVec.toNat hz⟩
  all_goals exact ⟨⟨nofun, nofun, nofun⟩, rfl⟩

/-- R120: a visit outside R_DATA goes on in the response, and stores nothing. -/
theorem tick_inResponse {s u t : State} (h : tick u = some t) (hop : u.ph.operation = some 3) (hp : u.ph ≠ .rData)
    (hu : InResponse s u) : InResponse s t ∧ t.stored = u.stored := by
  obtain ⟨hreads, -, hcause⟩ := hu
  cases hph : u.ph <;> simp [hph, Phase.operation] at hop hp <;>
    simp only [tick, hph, Option.some.injEq, rPre, rSc1, rSc2, rTfi, expectByte] at h
  case rStatus | rPre | rSc1 | rSc2 | rLen | rLcs | rTfi | rEcho =>
    obtain ⟨b, bs, hb, rfl⟩ := askRead_cases h
    have hbs (n : Nat) (hn : u.ph.position = some n) : bs = s.reads.drop (n + 1) := by
      rw [← List.tail_drop, ← hreads n hn, hb, List.tail_cons]
    dsimp only
    repeat' split
    all_goals refine ⟨⟨?_, ?_, ?_⟩, ?_⟩ <;> simp [State.stored, Phase.position, abortTxn, hph, hbs]
  case rDcs | rPost =>
    obtain ⟨b, bs, -, rfl⟩ := askRead_cases h
    dsimp only
    repeat' split
    all_goals refine ⟨⟨?_, ?_, ?_⟩, ?_⟩ <;> simp [State.stored, Phase.position, abortTxn, hph]
  case rWait =>
    obtain ⟨x, xs, -, -, rfl⟩ | ⟨r, rs, -, -, rfl⟩ | ⟨x, xs, -, -, rfl⟩ := waitVisit_cases h
    all_goals repeat' split
    all_goals refine ⟨⟨?_, ?_, ?_⟩, ?_⟩ <;> simp [State.stored, Phase.position, hph, hreads]
  case rCheck =>
    subst h
    unfold rCheck
    split <;> refine ⟨⟨?_, ?_, ?_⟩, ?_⟩ <;> simp [State.stored, Phase.position, hph, hreads]
  case rSize =>
    subst h
    obtain ⟨hin, hst⟩ := rSize_inResponse (hreads 8 (by rw [hph]; rfl))
    exact ⟨hin, hst.trans (by simp [State.stored, hph])⟩
  case rOpen | rClose | xClose =>
    subst h
    simp only [rOpen, rClose, xClose]
    refine ⟨⟨?_, ?_, ?_⟩, ?_⟩ <;> simp [State.stored, Phase.position, hph, hreads, hcause]

/-- R120 step 15: a payload byte that has been read is stored and summed. -/
theorem rData_of_ready {u : State} (hs : u.sub = .ready) : rData u = some (
    if u.idx.toNat + 1 < u.plen.toNat then { u with
      rbuf := u.rbuf.write u.idx.toNat u.rbyte, sum := sumAdd u.sum u.rbyte, sub := .latch, idx := u.idx + 1 }
    else { u with
      rbuf := u.rbuf.write u.idx.toNat u.rbyte, sum := sumAdd u.sum u.rbyte, sub := .latch, ph := .rDcs }) := by
  rw [rData, hs]
  rfl

/-- R120 step 15: otherwise the next one is read. -/
theorem rData_of_not_ready {u : State} (hs : u.sub ≠ .ready) :
    rData u = askRead (fun b s => { s with rbyte := b, sub := .ready }) u := by
  unfold rData
  split
  case h_4 he => exact absurd he hs
  all_goals rfl

/-- A visit of R_DATA reads a payload byte, or stores the one read behind those stored. -/
theorem rData_inResponse {s u t : State} (h : rData u = some t) (hp : u.ph = .rData) (hu : InPayload s u) :
    InResponse s t ∧ (t.rbuf = u.rbuf ∧ t.stored = u.stored ∨
      t.rbuf = u.rbuf.write u.stored u.rbyte ∧ t.stored = u.stored + 1 ∧ u.stored < u.maxl.toNat ∧
        (s.reads.drop 8)[u.stored]? = some u.rbyte) := by
  obtain ⟨hlt, hroom, hnext, htaken⟩ := hu
  have hst : u.stored = u.idx.toNat := by simp only [State.stored, hp]
  rw [hst]
  by_cases hs : u.sub = .ready
  · have hbyte : (s.reads.drop 8)[u.idx.toNat]? = some u.rbyte := by
      rw [← List.head?_drop, List.drop_drop, htaken hs, List.head?_cons]
    have hrest : u.reads = s.reads.drop (8 + (u.idx.toNat + 1)) := by
      rw [← Nat.add_assoc, ← List.tail_drop, htaken hs, List.tail_cons]
    have hmaxl : u.idx.toNat < u.maxl.toNat := by omega
    obtain rfl := Option.some.inj ((rData_of_ready hs).symm.trans h)
    split
    · next hmore =>
      have hidx : (u.idx + 1).toNat = u.idx.toNat + 1 := by bv_omega
      refine ⟨⟨fun n hn => ?_, fun _ => ⟨?_, hroom, fun _ => ?_, nofun⟩, fun hx => ?_⟩, .inr ⟨rfl, ?_, hmaxl, hbyte⟩⟩
      · simp [hp, Phase.position] at hn
      · exact hidx ▸ hmore
      · exact hidx ▸ hrest
      · simp [hp] at hx
      · simpa only [State.stored, hp] using hidx
    · next hlast =>
      have hall : u.plen.toNat = u.idx.toNat + 1 := by omega
      exact ⟨⟨nofun, nofun, nofun⟩, .inr ⟨rfl, hall, hmaxl, hbyte⟩⟩
  · rw [rData_of_not_ready hs] at h
    obtain ⟨b, bs, hb, rfl⟩ := askRead_cases h
    have hbs : s.reads.drop (8 + u.idx.toNat) = b :: bs := (hnext hs).symm.trans hb
    refine ⟨⟨fun n hn => ?_, fun _ => ⟨hlt, hroom, nofun, fun _ => hbs⟩, fun hx => ?_⟩, .inl ⟨rfl, ?_⟩⟩
    · simp [hp, Phase.position] at hn
    · simp [hp] at hx
    · simp only [State.stored, hp]

/-! ## A run -/

/-- READ_RESPONSE, started in `s`, has got as far as `u`: what it has stored is the first part of what came behind the
echo. -/
structure Received (s u : State) : Prop where
  within : u.ph = .idle ∨ u.ph.operation = some 3
  place : InResponse s u
  rbuf : u.rbuf = s.rbuf.writeBytes 0 ((s.reads.drop 8).take u.stored)
  came : u.stored ≤ (s.reads.drop 8).length
  room : u.stored ≤ u.maxl.toNat

theorem received_start (s : State) : Received s (startOperation 3 .rCheck s) where
  within := .inr rfl
  place := ⟨by simp [startOperation, Phase.position], nofun, nofun⟩
  rbuf := rfl
  came := Nat.zero_le _
  room := Nat.zero_le _

/-- A byte written behind a byte string. -/
theorem Memory.writeBytes_concat (bs : List Byte) (b : Byte) (m : Memory) (i : Nat) :
    m.writeBytes i (bs ++ [b]) = (m.writeBytes i bs).write (i + bs.length) b := by
  induction bs generalizing m i with
  | nil => rfl
  | cons c bs ih => simp [Memory.writeBytes, ih, Nat.add_assoc, Nat.add_comm 1]

theorem tick_received {s u t : State} (h : tick u = some t) (hu : Received s u) : Received s t := by
  obtain ⟨hwithin, hplace, hrbuf, hcame, hroom⟩ := hu
  have hop := hwithin.resolve_left (not_idle_of_tick h)
  have hwithin' := (u.ph.operation_of_edge _ (tick_visit h).edge).imp_right (·.trans hop)
  have hmaxl : t.maxl = u.maxl := (tick_sameOperands h).maxl
  obtain ⟨hplace', hst⟩ : InResponse s t ∧ (t.rbuf = u.rbuf ∧ t.stored = u.stored ∨
      t.rbuf = u.rbuf.write u.stored u.rbyte ∧ t.stored = u.stored + 1 ∧ u.stored < u.maxl.toNat ∧
        (s.reads.drop 8)[u.stored]? = some u.rbyte) := by
    by_cases hp : u.ph = .rData
    · simp only [tick, hp] at h
      exact rData_inResponse h hp (hplace.payload hp)
    · obtain ⟨hin, hst⟩ := tick_inResponse h hop hp hplace
      exact ⟨hin, .inl ⟨(tick_visit h).rbuf hp, hst⟩⟩
  obtain ⟨hr, hst⟩ | ⟨hr, hst, hlt, hbyte⟩ := hst
  · exact ⟨hwithin', hplace', by rw [hr, hst, hrbuf], hst ▸ hcame, by rw [hst, hmaxl]; exact hroom⟩
  · obtain ⟨hlen, -⟩ := List.getElem?_eq_some_iff.1 hbyte
    refine ⟨hwithin', hplace', ?_, by omega, by rw [hst, hmaxl]; exact hlt⟩
    rw [hr, hrbuf, hst, List.take_add_one, hbyte, Option.toList_some, Memory.writeBytes_concat, Nat.zero_add,
      List.length_take_of_le hcame]

theorem readResponse_received (s : State) : Received s (resume (startOperation 3 .rCheck s)) :=
  resume_keeps (fun _ _ ht hu => tick_received ht hu) (received_start s)

/-- What a byte of `RBUF` reads as. -/
theorem Received.read_rbuf {s u : State} (hu : Received s u) (i : Nat) :
    u.rbuf.read i = if i < u.stored then (s.reads.drop 8).getD i 0 else s.rbuf.read i := by
  rw [hu.rbuf, Memory.read_writeBytes, List.length_take_of_le hu.came]
  by_cases hi : i < u.stored
  · simp [hi]
  · simp [hi]

/-- No more bytes are stored than `PLEN` says. -/
theorem Received.stored_le_plen {s u : State} (hu : Received s u) : u.stored ≤ u.plen.toNat := by
  unfold State.stored
  split
  case h_1 hp => exact (hu.place.payload hp).index.le
  case h_2 | h_3 | h_4 => exact le_rfl
  case h_5 | h_6 => split <;> omega
  case h_7 => exact Nat.zero_le _

/-- Settles O30: how many bytes have been stored at the end is told by the cause. -/
theorem rbufAfterReadResponse : Obligations.RbufAfterReadResponse := by
  intro s t hb h ht
  cases (exec_operation (c := 3) hb rfl).symm.trans h
  have hu := readResponse_received s
  have hidle : (resume (startOperation 3 .rCheck s)).ph = .idle := by
    have h0 : Underway 3 s (startOperation 3 .rCheck s) := ⟨rfl, .inl ⟨rfl, nofun, rfl, rfl⟩⟩
    obtain ⟨-, ⟨hbusy, -⟩ | ⟨-, hi, -⟩⟩ := resume_keeps (fun _ _ ht hu => tick_underway ht hu) h0
    · cases ht.symm.trans hbusy
    · exact hi
  have hread := hu.read_rbuf
  have hrbuf := hu.rbuf
  split
  · next hk =>
    intro i
    simpa only [State.stored, hidle, if_pos hk] using hread i
  · next hk =>
    have hnone : (resume (startOperation 3 .rCheck s)).stored = 0 := by simp only [State.stored, hidle, if_neg hk]
    rw [hnone] at hrbuf
    exact hrbuf

/-- Settles O29: the check of the capacity stands before the payload, and what is stored stays below `MAXL`. -/
theorem capacityIsNeverExceeded : Obligations.CapacityIsNeverExceeded := by
  refine ⟨fun s st len lcs echo more hp hr hst hlcs hecho hlen => ?_, fun s t hb h i hi => ?_⟩
  · rw [resume_rStatus_noSpace hp hst hlcs hecho hlen hr]
    refine ⟨⟨rfl, rfl, rfl, rfl⟩, rfl, ?_, rfl, rfl⟩
    show (len - 2).toNat = len.toNat - 2
    bv_omega
  · cases (exec_operation (c := 3) hb rfl).symm.trans h
    have hu := readResponse_received s
    have hmaxl : (resume (startOperation 3 .rCheck s)).maxl = s.maxl := (resume_sameOperands _).maxl
    have hroom := hmaxl ▸ hu.room
    rw [hu.read_rbuf, if_neg (by omega)]

end Sys2Proof.Machine
end

section
/-! PROOFS. What READ_RESPONSE leaves unchanged, whatever the answers. -/

namespace Sys2Proof.Machine

/-- R47: a visit of READ_RESPONSE, whose transaction carries no writes, sends nothing and takes no answer about a
write. -/
theorem tick_sendsNothing {u t : State} (h : tick u = some t) (hop : u.ph.operation = some 3)
    (htxn : u.ph.inOtherTransaction = true → u.txn ≠ .writing) :
    (t.ph.inOtherTransaction = true → t.txn ≠ .writing) ∧ t.committed = u.committed ∧ t.accepts = u.accepts := by
  cases hp : u.ph <;> simp [hp, Phase.operation] at hop <;> rw [hp] at htxn <;>
    simp only [tick, hp, Option.some.injEq, rPre, rSc1, rSc2, rTfi, expectByte] at h
  case rStatus | rPre | rSc1 | rSc2 | rLen | rLcs | rTfi | rEcho | rDcs | rPost =>
    obtain ⟨b, bs, -, rfl⟩ := askRead_cases h
    dsimp only
    repeat' split
    all_goals exact ⟨nofun, rfl, rfl⟩
  case rWait =>
    obtain ⟨x, xs, -, -, rfl⟩ | ⟨r, rs, -, -, rfl⟩ | ⟨x, xs, -, -, rfl⟩ := waitVisit_cases h
    all_goals repeat' split
    all_goals simp [hp, Phase.inOtherTransaction]
  case rData =>
    obtain ⟨b, bs, rfl⟩ | ⟨-, rfl⟩ := rData_cases h
    · exact ⟨nofun, rfl, rfl⟩
    · split <;> exact ⟨fun _ => htxn rfl, rfl, rfl⟩
  case rSize =>
    subst h
    simp only [rSize]
    repeat' split
    all_goals exact ⟨fun _ => htxn rfl, rfl, rfl⟩
  case rCheck =>
    subst h
    unfold rCheck
    split <;> exact ⟨nofun, rfl, rfl⟩
  case rOpen =>
    subst h
    exact ⟨nofun, rfl, rfl⟩
  case rClose | xClose =>
    subst h
    exact ⟨nofun, if_neg (htxn rfl), rfl⟩

/-- READ_RESPONSE, started in `s`, has got as far as `u` without a write: nothing has gone out. -/
structure SentNothing (s u : State) : Prop where
  within : u.ph = .idle ∨ u.ph.operation = some 3
  txn : u.ph.inOtherTransaction = true → u.txn ≠ .writing
  committed : u.committed = s.committed
  accepts : u.accepts = s.accepts

theorem tick_sentNothing {s u t : State} (h : tick u = some t) (hu : SentNothing s u) : SentNothing s t := by
  obtain ⟨hwithin, htxn, hcommitted, haccepts⟩ := hu
  have hop := hwithin.resolve_left (not_idle_of_tick h)
  obtain ⟨htxn', hcommitted', haccepts'⟩ := tick_sendsNothing h hop htxn
  exact ⟨(u.ph.operation_of_edge _ (tick_visit h).edge).imp_right (·.trans hop), htxn',
    hcommitted'.trans hcommitted, haccepts'.trans haccepts⟩

/-- Settles O32: READ_RESPONSE keeps what every operation keeps, writes no flag and no byte on the bus, and stores only
below `PLEN`. -/
theorem readResponseFrame : Obligations.ReadResponseFrame := by
  intro s t hb h
  cases (exec_operation (c := 3) hb rfl).symm.trans h
  obtain ⟨hlatches, hcommand, hresult, hinputs, hrdata⟩ := operation_frame (c := 3) (ph := .rCheck) rfl s
  have hf := operation_flags (c := 3) (ph := .rCheck) rfl s (by decide)
  have hw : SentNothing s (resume (startOperation 3 .rCheck s)) :=
    resume_keeps (fun _ _ ht hu => tick_sentNothing ht hu) ⟨.inr rfl, nofun, rfl, rfl⟩
  have hu := readResponse_received s
  refine ⟨hlatches, hf.pairing (by decide), hcommand, hresult, hf.rdyres (by decide), hf.rstn, hw.committed, hw.accepts,
    hinputs, hrdata, fun i hi => ?_⟩
  have hstored := hu.stored_le_plen
  rw [hu.read_rbuf, if_neg (by omega)]

end Sys2Proof.Machine
end

section
/-! PROOFS. WAIT_READY with the samples of its wait, and a wait whose samples do not come (R140 to R142). -/

namespace Sys2Proof.Machine

open Pseudo (Flow)

/-! ## WAIT_READY (R141) -/

/-- The wait takes its samples, and its answer is all that WAIT_READY records. -/
theorem waitReadyOp_takes {s : State} {clock rest : List Nat} {signal rest' : List Bool} {r : Bool}
    (hn : s.nows = clock ++ rest) (hr : s.readies = signal ++ rest') (hw : WaitTakes s.cfg s.tmo clock signal r) :
    Pseudo.waitReadyOp s = .ended (complete { s.waited clock signal rest rest' with rdyres := r }) := by
  rw [Pseudo.waitReadyOp, waitReady_takes hn hr hw]
  rfl

/-- Settles O12: the operation ends where its pseudocode ends, behind the samples of the wait. -/
theorem waitReadyCompletes : Obligations.WaitReadyCompletes := by
  intro s clock rest signal rest' r hb hn hr hw
  have hflow := waitReadyOp_takes (s := startOperation 4 .idle s) hn hr hw
  exact ⟨_, exec_of_finalState (c := 4) hb (by decide) (congrArg Flow.final hflow), ⟨rfl, rfl, rfl, rfl⟩, rfl, rfl, rfl,
    rfl, rfl, rfl, rfl, rfl, rfl⟩

/-! ## A wait without a sample (R142) -/

/-- R20: with no input the engine goes on. -/
theorem step_of_no_input {s : State} (h : s.inputs = []) : step s = .next (resume s) := by
  have hf : fetch s = none := by simp only [fetch, h]
  simp only [step, hf, h]

/-- R184: a write of the host, to `OPR` or to any other register, is ignored while `BUSY = 1`. -/
theorem step_writeReg_busy {s : State} {r : HostReg} {v : Nat} {rest : List Input} (hb : s.busy = true)
    (h : s.inputs = .writeReg r v :: rest) : step s = .next { s with inputs := rest } := by
  by_cases hr : r = .opr
  · subst hr
    rw [stepRunsFetchedInstruction.1 s v rest h, exec_decodeOpCode]
    exact congrArg Host.Outcome.next (if_pos hb)
  · rw [step_writeReg hr h]
    exact congrArg Host.Outcome.next (if_pos hb)

/-- Settles O49: without an input a run from rest stays where it is, and a register access of the host touches nothing
that the engine asks for. -/
theorem aWaitCannotBeCancelled : Obligations.AWaitCannotBeCancelled := by
  intro s hb (hs : tick s = none)
  refine ⟨fun h => ?_, fun a rest h ha => ?_⟩
  · rw [step_of_no_input h, resume_of_rest hs]
  · obtain ⟨r, v, rfl⟩ | ⟨r, rfl⟩ := ha
    · exact ⟨_, step_writeReg_busy hb h, hb, rfl, rfl, rfl, tick_none_of_asking s rfl hs⟩
    · exact ⟨_, step_readReg h, hb, rfl, rfl, rfl, tick_none_of_asking s rfl hs⟩

end Sys2Proof.Machine
end

section
/-! PROOFS. The result and cause codes, and what the two aborts leave (R150, R151, R160 to R162). -/

namespace Sys2Proof.Machine

/-! ## The codes (R150, R151) -/

/-- R151: the values 20 to 31 of `CAUSE` are never produced. -/
theorem Cause.code_le (k : Cause) : k.code.toNat ≤ 19 := by
  cases k <;> decide

/-- Settles O40: both tables row by row, and the bound on every cause. -/
theorem resultAndCauseCodes : Obligations.ResultAndCauseCodes :=
  ⟨by decide, by decide, Cause.code_le⟩

/-! ## The aborts (R160 to R162) -/

/-- R162: in `t` the operation has ended with cause `k`, and what the host keeps is as in `s`, where the check failed. -/
def AbortLeaves (k : Cause) (s t : State) : Prop :=
  EndedWith k.result k t ∧ t.pendcmd = s.pendcmd ∧ t.pendv = s.pendv ∧ t.rdyres = s.rdyres ∧ t.rstn = s.rstn ∧
    t.plen = s.plen ∧ t.opr = s.opr ∧ KeepsLatches s t ∧ t.hdr = s.hdr ∧ t.body = s.body ∧ t.rbuf = s.rbuf ∧
    t.accepts = s.accepts

/-- R160: the end of the operation writes `BUSY`, `PH`, `RESULT`, `CAUSE` and the working registers, nothing of these. -/
theorem abort_leaves (k : Cause) (s : State) : AbortLeaves k s (abort k s) :=
  ⟨⟨rfl, rfl, rfl, rfl⟩, rfl, rfl, rfl, rfl, rfl, rfl, ⟨rfl, rfl, rfl, rfl, rfl⟩, rfl, rfl, rfl, rfl⟩

/-- R47: `BusEnd()` changes the bus alone, so what was kept from behind it was kept from before it. -/
theorem AbortLeaves.before_busEnd {k : Cause} {s t : State} (h : AbortLeaves k (busEnd s) t) : AbortLeaves k s t := h

/-- R161: the visit of X_CLOSE issues the `BusEnd()` and ends the operation as an abort does. -/
theorem tick_abortTxn (k : Cause) (s : State) : tick (abortTxn k s) = some (abort k (busEnd s)) := rfl

/-- Settles O41: an abort in a transaction is an abort behind its `BusEnd()`. -/
theorem abortsAreExact : Obligations.AbortsAreExact := by
  intro s k
  refine ⟨⟨abort_leaves k s, abort_trace k s, abort_txn k s, abort_reads k s⟩, abortTxn_ph k s, abortTxn_trace k s,
    abort k (busEnd s), tick_abortTxn k s, (abort_leaves k (busEnd s)).before_busEnd, ?_, ?_⟩
  · rw [abort_trace, busEnd_trace]
  · rw [abort_txn, busEnd_txn]

end Sys2Proof.Machine
end

section
/-! PROOFS. The hardware reset, where the engine stands and in the middle of a run, and the writes that a busy engine
ignores (R180, R184). -/

namespace Sys2Proof.Machine

/-! ## Writes while busy (R184) -/

/-- Settles O43: neither the fetch of a code nor the write of a latch gets past `BUSY = 1`. -/
theorem writesWhileBusyAreIgnored : Obligations.WritesWhileBusyAreIgnored := fun _ _ _ _ hb h => step_writeReg_busy hb h

/-! ## The run that an input sets off -/

/-- What lands leaves the queue and the events so far as they are. -/
theorem Lands.inputs_trace {s u : State} (h : Lands s u) : u.inputs = s.inputs ∧ u.trace = s.trace := by
  cases h <;> exact ⟨rfl, rfl⟩

/-- An input that is no instruction does what `hostInput` says. -/
theorem step_of_hostInput {s : State} {a : Input} {rest : List Input} (hf : fetch s = none) (h : s.inputs = a :: rest) :
    step s = hostInput a { s with inputs := rest } := by
  simp only [step, hf, h]

/-- R34, R35: a code with a first phase starts its operation. -/
theorem beginOperation_operation {c : OpCode} {ph : Phase} {s : State} (hb : s.busy = false)
    (hf : firstPhase c = some ph) : beginOperation c s = startOperation c ph s := by
  simp only [beginOperation, hb, hf, Bool.false_eq_true, if_false]

/-- R73: a code without a first phase is rejected. -/
theorem beginOperation_reserved {c : OpCode} {s : State} (hb : s.busy = false) (hf : firstPhase c = none) :
    beginOperation c s = rejectCode c s := by
  simp only [beginOperation, hb, hf, Bool.false_eq_true, if_false]

/-- R35, R73: the write of a code to `OPR` lands, and the engine runs; one that starts no operation leaves it idle. -/
theorem exec_of_beginOperation {s : State} (hb : s.busy = false) (hp : s.ph = .idle) (c : OpCode) :
    exec (decodeOpCode c) s = .next (resume (beginOperation c s)) := by
  cases hf : firstPhase c with
  | some ph => rw [exec_operation hb hf, beginOperation_operation hb hf]
  | none =>
    have hrest : tick (rejectCode c s) = none := tick_idle hp
    rw [exec_reserved hb hf, beginOperation_reserved hb hf, resume_of_rest hrest]

/-- The step of an input that sets the engine going: the input lands, and the engine runs. -/
theorem step_of_setsGoing {s : State} {a : Input} {rest : List Input} (h : s.inputs = a :: rest) (ha : SetsGoing s a) :
    step s = .next (resume (landNext s)) ∧ Lands { s with inputs := rest } (landNext s) := by
  cases a with
  | writeReg r v =>
    cases r with
    | opr =>
      have hl : landNext s = beginOperation (BitVec.ofNat 3 v) { s with inputs := rest } := by simp only [landNext, h]
      rw [hl, stepRunsFetchedInstruction.1 s v rest h]
      exact ⟨exec_of_beginOperation (s := { s with inputs := rest }) ha.1 ha.2 _, lands_beginOperation _ _⟩
    | _ => exact ha.elim
  | now t =>
    exact ⟨by rw [step_of_hostInput (by simp only [fetch, h]) h]; simp only [hostInput, landNext, h],
      by simpa [landNext, h, State.more] using Lands.answers (s := { s with inputs := rest }) [t] [] [] []⟩
  | ready v =>
    exact ⟨by rw [step_of_hostInput (by simp only [fetch, h]) h]; simp only [hostInput, landNext, h],
      by simpa [landNext, h, State.more] using Lands.answers (s := { s with inputs := rest }) [] [v] [] []⟩
  | accept v =>
    exact ⟨by rw [step_of_hostInput (by simp only [fetch, h]) h]; simp only [hostInput, landNext, h],
      by simpa [landNext, h, State.more] using Lands.answers (s := { s with inputs := rest }) [] [] [v] []⟩
  | wire bs =>
    have hl : landNext s = landWire bs { s with inputs := rest } := by simp only [landNext, h]
    rw [hl]
    exact ⟨step_wire h, lands_landWire _ _⟩
  | _ => exact ha.elim

/-! ## The hardware reset (R180) -/

/-- R33, R180: the reset gives the registers their values and touches nothing outside them. -/
theorem hardwareReset_afterReset (u : State) : AfterReset u (hardwareReset u) := by
  constructor <;> simp

/-- Settles O47: the reset falls on the state where the engine stands or that the first visits of a run have reached;
the input of that run lands and sets it off as it does in its own step. -/
theorem hardwareResetAbandonsTheOperation : Obligations.HardwareResetAbandonsTheOperation := by
  refine ⟨fun s rest h => ?_, fun s n rest h => ?_, fun s a rest h ha => ?_, fun s h => ?_⟩
  · exact ⟨_, step_of_hostInput (by simp only [fetch, h]) h, hardwareReset_afterReset _⟩
  · exact ⟨_, step_of_hostInput (by simp only [fetch, h]) h, hardwareReset_afterReset _⟩
  · obtain ⟨hstep, hland⟩ := step_of_setsGoing h ha
    exact ⟨hstep, hland.inputs_trace⟩
  · have hl : landNext s = s := by simp only [landNext, h]
    exact ⟨by rw [hl, step_of_no_input h], hl⟩

end Sys2Proof.Machine
end
